-- ==== Sys2Proof/Word.lean ====
section
/-! DEFINITION. The word types: a command word, a status word and a sample pattern are 32 bits (R53, R30, R85), a
character and an output byte are 8 bits (R65, R44). -/

namespace Sys2Proof

/-- A 32-bit word: a command word (R53), a status word (R30), a 32-bit counter (R24 to R26), a binary32 pattern (R85). -/
abbrev Word := BitVec 32

/-- An 8-bit character code (R65) or one byte of the output (R44). -/
abbrev Byte := BitVec 8

end Sys2Proof
end

