-- ==== Sys2Proof/Machine/Operands.lean ====
section
/-! DEFINITION. The fields of a command word (R54, R55) and their assembly into operands (R57): nothing is extended, scaled
or shifted. -/

namespace Sys2Proof.Machine

/-- The opcode, `w[31:24]` (R54). -/
def opcodeField (w : Word) : BitVec 8 :=
  w.extractLsb' 24 8

/-- `ch = w[7:0]`, the character code of format C (R57(a)). -/
def charField (w : Word) : Byte :=
  w.extractLsb' 0 8

/-- `A = w[8]`, the command kind of format E (R57(b)). -/
def kindField (w : Word) : Bool :=
  w.getLsbD 8

/-- `S = w[9]`, the soft-regulation flag of format E (R57(c)). -/
def softField (w : Word) : Bool :=
  w.getLsbD 9

/-- An operand bit as the number 0 or 1 (R61). -/
def bitWord (b : Bool) : Word :=
  if b then 1 else 0

end Sys2Proof.Machine
end

