-- ==== Sys2Proof/Syntax.lean ====
section
/-! DEFINITION. The three commands of command-set version 1 (R3, R56), one constructor per row of the opcode table. -/

namespace Sys2Proof

/-- A command with its operands (R61). -/
inductive Instr where
  /-- `CLRB` (R114): clear the bit string; no operand. -/
  | clrb
  /-- `PUSHC ch` (R115): append one character code, any of the 256 (R57(a)). -/
  | pushc (ch : Byte)
  /-- `ENC A, S` (R116): `a` is the command kind (R57(b)), `s` the soft-regulation flag (R57(c)). -/
  | enc (a s : Bool)
  deriving DecidableEq, Repr

end Sys2Proof
end

