-- ==== Sys2Proof/Config.lean ====
section
/-! DEFINITION. The configuration record of R6, with MAXBITS (R8) and the carrier table (R88): fixed when the block is
built, written by no command and by no step. -/

namespace Sys2Proof

/-- The configuration (R6, R8, R88). Which records are well-formed is R10, in WellFormed.lean. -/
structure Config where
  /-- `FC_HZ`, carrier frequency in hertz. -/
  fcHz : Nat
  /-- `SYMRATE`, symbols per second; the symbol duration is its reciprocal. -/
  symRate : Nat
  /-- `FS_HZ`, sample rate in samples per second. -/
  fsHz : Nat
  /-- `AMP`, the amplitude, a binary32 pattern. -/
  amp : Word
  /-- `PAUSE`, pause samples at the end of every unit. -/
  pause : Nat
  /-- `MAXBITS`, capacity of the symbol memory in characters (R8, open in the spec). -/
  maxBits : Nat
  /-- `CARRIER`, the carrier table (R88). -/
  carrier : List Word
  deriving DecidableEq, Repr

end Sys2Proof
end

