-- ==== Sys2Proof/Machine/Nco.lean ====
section
/-! DEFINITION. The NCO (41_nco.md): samples per symbol (R74), the endpoint-inclusive time grid (R77, R78) and the exact
phase (R79). Exact naturals and rationals only; no rounding but that of R74. -/

namespace Sys2Proof.Machine

/-- `round(a / b)` on the exact rational, a tie going to the even integer (R74). -/
def roundHalfEven (a b : Nat) : Nat :=
  if 2 * (a % b) < b then a / b
  else if b < 2 * (a % b) then a / b + 1
  else if a / b % 2 = 0 then a / b
  else a / b + 1

/-- `SPS = round(FS_HZ / SYMRATE)` (R7, R74). -/
def sps (c : Config) : Nat :=
  roundHalfEven c.fsHz c.symRate

/-- The symbol duration `TSYM = 1 / SYMRATE`, in seconds, exact (R6). -/
def tsym (c : Config) : ℚ :=
  1 / (c.symRate : ℚ)

/-- The time `t_k` of sample `k` of a symbol, in seconds (R77); for `SPS = 1` the single point is 0 (R78). -/
def sampleTime (c : Config) (k : Nat) : ℚ :=
  if sps c ≤ 1 then 0 else (k : ℚ) * tsym c / ((sps c : ℚ) - 1)

/-- The phase `theta_k = FC_HZ * t_k`, in cycles (R79). -/
def phase (c : Config) (k : Nat) : ℚ :=
  (c.fcHz : ℚ) * sampleTime c k

/-- The phase increment per sample of an accumulator NCO, in cycles (R79). -/
def phaseIncrement (c : Config) : ℚ :=
  (c.fcHz : ℚ) / ((c.symRate : ℚ) * ((sps c : ℚ) - 1))

end Sys2Proof.Machine
end

