-- ==== Sys2Proof/Machine/Binary32.lean ====
section
/-! DEFINITION. The sample format (R85) and the one rounding of the block (R86): fields and value of a binary32 pattern,
`RN32` on exact rationals as a function and on reals as a relation, and which values are neighbours (R88(iv)).
The layout is the IEEE 754 one, which the spec itself marks as general knowledge (log 15). -/

namespace Sys2Proof.Machine

/-- The sign bit `p[31]` (R85). -/
def signBit (p : Word) : Bool :=
  p.getLsbD 31

/-- The biased exponent `e = p[30:23]` (R85). -/
def expField (p : Word) : Nat :=
  (p.extractLsb' 23 8).toNat

/-- The fraction `f = p[22:0]` (R85). -/
def fracField (p : Word) : Nat :=
  (p.extractLsb' 0 23).toNat

/-- Neither an infinity nor a NaN: `e < 255` (R85). -/
def isFinite32 (p : Word) : Bool :=
  decide (expField p < 255)

/-- The magnitude of a finite pattern in units of `2^(-149)`, the least subnormal (R85, the two formulas over one
denominator). -/
def magnitude32 (p : Word) : Nat :=
  if expField p = 0 then fracField p else (2 ^ 23 + fracField p) * 2 ^ (expField p - 1)

/-- `F32(p)`, the real number a finite pattern denotes, here as an exact rational (R14, R85). -/
def f32 (p : Word) : ℚ :=
  (if signBit p then -1 else 1) * ((magnitude32 p : ℚ) / 2 ^ 149)

/-- The position of a finite pattern among the binary32 values in rising order; both zeros are 0. -/
def ordinal32 (p : Word) : Int :=
  if signBit p then -((p.extractLsb' 0 31).toNat : Int) else ((p.extractLsb' 0 31).toNat : Int)

/-- Two finite values with no binary32 value between them (R88(iv)). -/
def adjacent32 (p q : Word) : Bool :=
  isFinite32 p && isFinite32 q && ((ordinal32 p - ordinal32 q).natAbs == 1)

/-- For a magnitude whose whole number of units `2^(-149)` is `q`: the number of significand bits below the 24 kept. -/
def significandShift (q : Nat) : Nat :=
  if q < 2 ^ 24 then 0 else Nat.log2 q - 23

/-- The pattern, sign apart, nearest to a magnitude of `a / d` units of `2^(-149)` (ties to the even fraction): the
significand is rounded in units of `2^(shift - 149)`, and adding `shift * 2^23` lets a carry out of it reach the
exponent. -/
def roundedPattern (a d : Nat) : Nat :=
  significandShift (a / d) * 2 ^ 23 + roundHalfEven a (d * 2 ^ significandShift (a / d))

/-- The pattern, sign apart, nearest to `a / d`, at most the greatest finite one (R86). -/
def nearestMagnitude (a d : Nat) : Nat :=
  min (roundedPattern (a * 2 ^ 149) d) 0x7F7FFFFF

/-- `RN32(x)` for a rational `x` with `|x| < 2^128` (R86); no value outside that range, of which R86 says nothing. -/
def rn32 (x : ℚ) : Option Word :=
  if 2 ^ 128 * x.den ≤ x.num.natAbs then none
  else if x.num < 0 then some (0x80000000#32 ||| BitVec.ofNat 32 (nearestMagnitude x.num.natAbs x.den))
  else some (BitVec.ofNat 32 (nearestMagnitude x.num.natAbs x.den))

/-- `RN32(x) = p` for a real `x` with `|x| < 2^128` (R86): `p` is a finite value nearest to `x`; at a tie its fraction is
even; a zero carries the sign of `x`, and `RN32(0)` is the positive zero. -/
def IsRN32 (x : ℝ) (p : Word) : Prop :=
  isFinite32 p = true ∧
  (∀ q : Word, isFinite32 q = true → |((f32 p : ℚ) : ℝ) - x| ≤ |((f32 q : ℚ) : ℝ) - x|) ∧
  (∀ q : Word, isFinite32 q = true → f32 q ≠ f32 p →
    |((f32 q : ℚ) : ℝ) - x| = |((f32 p : ℚ) : ℝ) - x| → fracField p % 2 = 0) ∧
  (f32 p = 0 → (signBit p = true ↔ x < 0))

end Sys2Proof.Machine
end

