-- ==== Sys2Proof/Machine/AmEngine.lean ====
section
/-! DEFINITION. The amplitude modulation engine (42_am_engine.md): the carrier sample as one rounding of the exact product
(R87), conformance of a carrier table (R88) and keying (R89, R90). The sine is the mathematical one (R82), so R87 and
R88(iv) are relations over the reals; what of R88 needs no sine is a check that every well-formed configuration has passed
(R91, R92, R94, R95), and the machine reads the table of the configuration, as R88 says (log 4, log 14). -/

namespace Sys2Proof.Machine

/-- The pattern of every silent and every pause sample, `+0.0` (R90). -/
def silence : Word :=
  0x00000000

/-- `p` is `s_k = RN32(F32(AMP) * sin(2 * pi * theta_k))` (R82, R87). -/
def IsCarrierSample (c : Config) (k : Nat) (p : Word) : Prop :=
  IsRN32 (((f32 c.amp : ℚ) : ℝ) * Real.sin (2 * Real.pi * ((phase c k : ℚ) : ℝ))) p

/-- The carrier table conforms (R88): `SPS` entries, the first `0x00000000`, each finite and at most `AMP` in magnitude,
and each `s_k` or a binary32 neighbour of `s_k`. -/
def Conforms (c : Config) : Prop :=
  c.carrier.length = sps c ∧
  (∀ p, c.carrier[0]? = some p → p = 0x00000000#32) ∧
  (∀ p ∈ c.carrier, isFinite32 p = true ∧ |f32 p| ≤ f32 c.amp) ∧
  (∀ k p, c.carrier[k]? = some p →
    ∃ q, IsCarrierSample c k q ∧ (p = q ∨ adjacent32 p q = true))

/-- R88(iii) of one entry: finite, and at most `AMP` in magnitude. -/
def entryInRange (c : Config) (p : Word) : Bool :=
  isFinite32 p && decide (magnitude32 p ≤ magnitude32 c.amp)

/-- The entry of index 0, if there is one, is `+0.0` (R88(ii), R92). -/
def startsSilent (c : Config) : Bool :=
  match c.carrier with
  | [] => true
  | p :: _ => p == silence

/-- With `AMP = +0.0` every entry is `+0.0` (R95, and then all that R88(iii) and (iv) allow). -/
def silentIfNoAmplitude (c : Config) : Bool :=
  c.amp != silence || c.carrier.all (fun p => p == silence)

/-- Of the conformance of R88, what needs no sine; (iv) stays to `Conforms` (U5, log 4). -/
def tableAdmissible (c : Config) : Bool :=
  startsSilent c && c.carrier.all (entryInRange c) && silentIfNoAmplitude c

/-- `Key(b, k)` (R89): the carrier table's entry `k`, or silence; no value past the end of the table, which is read only
when `b = 1`. -/
def key (c : Config) (b : Bool) (k : Nat) : Option Word :=
  if b then c.carrier[k]? else some silence

end Sys2Proof.Machine
end

