-- ==== Sys2Proof/WellFormed.lean ====
section
/-! DEFINITION. Which commands and which configurations are well-formed. Every operand value the syntax admits is legal
(R57), so a command is always well-formed; a configuration is checked by R10, its carrier table by as much of R88 as needs no sine
(U5, log 4), and an ill-formed one is refused by the machine. -/

namespace Sys2Proof

/-- R57: all 256 character codes and all four pairs of operand bits are legal operands. -/
def Instr.wellFormed : Instr → Bool
  | .clrb => true
  | .pushc _ => true
  | .enc _ _ => true

/-- R10(c): finite and `+0.0` or positive, so neither a NaN nor an infinity nor a pattern with the sign bit set. -/
def Config.ampLegal (c : Config) : Bool :=
  Machine.isFinite32 c.amp && !Machine.signBit c.amp

/-- A list has exactly `n` entries, told without counting it first. -/
def hasLength {α : Type} : List α → Nat → Bool
  | [], n => n == 0
  | _ :: _, 0 => false
  | _ :: xs, n + 1 => hasLength xs n

/-- R32: every value a 32-bit status word shows fits it (the further condition R32 lets a model take, log 3). -/
def Config.fitsStatusWords (c : Config) : Bool :=
  decide (Machine.sps c < 2 ^ 32) && decide (c.pause < 2 ^ 32) && decide (c.fcHz < 2 ^ 32) &&
    decide (c.fsHz < 2 ^ 32) && decide (c.symRate < 2 ^ 32) && decide (c.maxBits < 2 ^ 32)

/-- R10(a) to (e), R32's width condition (log 3), and R88 as far as it needs no sine (log 4). -/
def Config.wellFormed (c : Config) : Bool :=
  decide (1 ≤ c.symRate) && decide (1 ≤ c.maxBits) && c.ampLegal &&
    decide (20 * (c.maxBits * Machine.sps c + c.pause) < 2 ^ 32) &&
    hasLength c.carrier (Machine.sps c) && c.fitsStatusWords && Machine.tableAdmissible c

end Sys2Proof
end

