-- ==== Sys2Proof/Decode.lean ====
section
/-! DEFINITION. The decoder and the encoder of command words (30_encoding.md R53 to R61), and the opcode map of R56 as
match and mask of each command. -/

namespace Sys2Proof

open Sys2Proof.Machine

/-- Why a word is illegal (R59): the names are the model's own (log 19); the machine answers all of them alike (R118). -/
inductive IllegalWord where
  /-- `op` is `0x00` or one of `0x04 .. 0xFF`. -/
  | unknownOpcode
  /-- `op` is `0x01`, `0x02` or `0x03` and a reserved bit is 1 (R58). -/
  | reservedBitSet
  deriving DecidableEq, Repr

/-- What the decoder answers: a command, or ILLEGAL with its reason (R61). -/
inductive Decoded where
  | command (i : Instr)
  | illegal (why : IllegalWord)
  deriving DecidableEq, Repr

/-- The reason for an illegal word, by its opcode (R58, R59). -/
def illegalReason (w : Word) : IllegalWord :=
  if opcodeField w = 0x01 ∨ opcodeField w = 0x02 ∨ opcodeField w = 0x03 then .reservedBitSet
  else .unknownOpcode

/-- `Decode` of R61, total on 32-bit words. -/
def decode (w : Word) : Decoded :=
  if w = 0x01000000#32 then .command .clrb
  else if w &&& 0xFFFFFF00#32 = 0x02000000#32 then .command (.pushc (charField w))
  else if w &&& 0xFFFFFCFF#32 = 0x03000000#32 then .command (.enc (kindField w) (softField w))
  else .illegal (illegalReason w)

/-- The encoder of R61. -/
def encode : Instr → Word
  | .clrb => 0x01000000#32
  | .pushc ch => 0x02000000#32 + ch.setWidth 32
  | .enc a s => 0x03000000#32 + 256#32 * bitWord a + 512#32 * bitWord s

/-- The `match` column of R56. -/
def rowMatch : Instr → Word
  | .clrb => 0x01000000#32
  | .pushc _ => 0x02000000#32
  | .enc _ _ => 0x03000000#32

/-- The `mask` column of R56. -/
def rowMask : Instr → Word
  | .clrb => 0xFFFFFFFF#32
  | .pushc _ => 0xFFFFFF00#32
  | .enc _ _ => 0xFFFFFCFF#32

/-- The command word whose low `nbits` bits are those of `w`, every higher bit 0: a command is one 32-bit word,
transferred whole (R53), and the command port has no byte order (R46). -/
def tableWord (nbits w : Nat) : Word :=
  BitVec.ofNat 32 (w % 2 ^ nbits)

/-- The command the decoder reads from the opcode table's bits. -/
def decodeTableWord (nbits w : Nat) : Option Instr :=
  match decode (tableWord nbits w) with
  | .command i => some i
  | .illegal _ => none

end Sys2Proof
end

