-- ==== Sys2Proof/Machine/Configurations.lean ====
section
/-! DEFINITION. The named configurations of the spec: DSR-DEFAULT (R6, with the carrier table of 96_carrier_table.md and the
example value 256 of MAXBITS, R8) and the three small ones of 95_test_vectors.md section 0. -/

namespace Sys2Proof.Machine

/-- Entries 0 to 127 of the table of 96_carrier_table.md. -/
def carrierPart00 : List Nat := [
  0x00000000, 0x3D29AB45, 0x3DA985FD, 0x3DFDEBD8, 0x3E28F10E, 0x3E52A1F3, 0x3E7BF647, 0x3E926DF1,
  0x3EA6A065, 0x3EBA89A0, 0x3ECE20E1, 0x3EE15D8D, 0x3EF4372F, 0x3F0352C0, 0x3F0C5032, 0x3F150FFB,
  0x3F1D8E43, 0x3F25C74D, 0x3F2DB77E, 0x3F355B57, 0x3F3CAF7E, 0x3F43B0BA, 0x3F4A5BF6, 0x3F50AE46,
  0x3F56A4E0, 0x3F5C3D28, 0x3F6174A6, 0x3F664911, 0x3F6AB849, 0x3F6EC05B, 0x3F725F81, 0x3F759425,
  0x3F785CDD, 0x3F7AB870, 0x3F7CA5D5, 0x3F7E2434, 0x3F7F32E3, 0x3F7FD16D, 0x3F7FFF8B, 0x3F7FBD2A,
  0x3F7F0A66, 0x3F7DE78E, 0x3F7C5522, 0x3F7A53D2, 0x3F77E481, 0x3F750840, 0x3F71C050, 0x3F6E0E24,
  0x3F69F35B, 0x3F6571C2, 0x3F608B55, 0x3F5B423B, 0x3F5598C6, 0x3F4F9173, 0x3F492EEA, 0x3F4273F7,
  0x3F3B6390, 0x3F3400D0, 0x3F2C4EF6, 0x3F245163, 0x3F1C0B9A, 0x3F13813E, 0x3F0AB610, 0x3F01ADED,
  0x3EF0D99B, 0x3EDDED84, 0x3ECA9FE6, 0x3EB6F93D, 0x3EA3022B, 0x3E8EC377, 0x3E748C0B, 0x3E4B25B1,
  0x3E216612, 0x3DEEBF0A, 0x3D9A4905, 0x3D0B1E66, 0xBBF49302, 0xBD4835B7, 0xBDB8C089, 0xBE068A83,
  0xBE3079A2, 0xBE5A1B33, 0xBE81AE76, 0xBE961655, 0xBEAA3C3F, 0xBEBE175A, 0xBED19EEC, 0xBEE4CA5F,
  0xBEF79148, 0xBF04F5B3, 0xBF0DE853, 0xBF169C97, 0xBF1F0EAC, 0xBF273ADA, 0xBF2F1D8B, 0xBF36B348,
  0xBF3DF8BB, 0xBF44EAB2, 0xBF4B8620, 0xBF51C81E, 0xBF57ADEB, 0xBF5D34F1, 0xBF625AC0, 0xBF671D17,
  0xBF6B79DE, 0xBF6F6F2A, 0xBF72FB3D, 0xBF761C89, 0xBF78D1AE, 0xBF7B197A, 0xBF7CF2EE, 0xBF7E5D39,
  0xBF7F57BD, 0xBF7FE20A, 0xBF7FFBE5, 0xBF7FA541, 0xBF7EDE45, 0xBF7DA749, 0xBF7C00D5, 0xBF79EBA2,
  0xBF77689C, 0xBF7478DC, 0xBF711DAD, 0xBF6D5888, 0xBF692B17, 0xBF64972E, 0xBF5F9ED0, 0xBF5A442D]

/-- Entries 128 to 255 of the table of 96_carrier_table.md. -/
def carrierPart01 : List Nat := [
  0xBF5489A0, 0xBF4E71AB, 0xBF47FEFE, 0xBF41346E, 0xBF3A14F6, 0xBF32A3B8, 0xBF2AE3F9, 0xBF22D921,
  0xBF1A86B8, 0xBF11F067, 0xBF0919F4, 0xBF000742, 0xBEED7898, 0xBEDA7A51, 0xBEC71C07, 0xBEB3663D,
  0xBE9F619D, 0xBE8B16F3, 0xBE6D1E52, 0xBE43A68A, 0xBE19D8C8, 0xBDDF8ED4, 0xBD8B09DA, 0xBCD91F18,
  0x3C749144, 0x3D66BD4F, 0x3DC7F874, 0x3E0E1D30, 0x3E37FFB2, 0x3E619158, 0x3E855FEF, 0x3E99BC95,
  0x3EADD5AC, 0x3EC1A25F, 0x3ED519F9, 0x3EE833EE, 0x3EFAE7D9, 0x3F0696C0, 0x3F0F7E6E, 0x3F18270E,
  0x3F208CD0, 0x3F28AC05, 0x3F30811A, 0x3F38089E, 0x3F3F3F42, 0x3F4621DC, 0x3F4CAD63, 0x3F52DEF8,
  0x3F58B3E3, 0x3F5E2992, 0x3F633DA0, 0x3F67EDD2, 0x3F6C3817, 0x3F701A8F, 0x3F739382, 0x3F76A16B,
  0x3F7942F3, 0x3F7B76F0, 0x3F7D3C6C, 0x3F7E929F, 0x3F7F78F2, 0x3F7FEF01, 0x3F7FF497, 0x3F7F89B3,
  0x3F7EAE82, 0x3F7D6366, 0x3F7BA8F0, 0x3F797FE2, 0x3F76E930, 0x3F73E5FC, 0x3F707799, 0x3F6C9F8A,
  0x3F685F7F, 0x3F63B956, 0x3F5EAF1B, 0x3F594303, 0x3F537771, 0x3F4D4EF2, 0x3F46CC39, 0x3F3FF224,
  0x3F38C3B5, 0x3F314413, 0x3F29768C, 0x3F215E8C, 0x3F18FFA2, 0x3F105D7B, 0x3F077BE4, 0x3EFCBD85,
  0x3EEA1431, 0x3ED70400, 0x3EC39551, 0x3EAFD0AF, 0x3E9BBECA, 0x3E876873, 0x3E65AD37, 0x3E3C2499,
  0x3E12494C, 0x3DD05B6E, 0x3D779166, 0x3C9BFE4A, 0xBCB76AC5, 0xBD82A0CE, 0xBDD72D84, 0xBE15ADD5,
  0xBE3F8321, 0xBE690444, 0xBE890F81, 0xBE9D60A4, 0xBEB16C9E, 0xBEC52AA0, 0xBED891FD, 0xBEEB9A2E,
  0xBEFE3AD5, 0xBF0835E2, 0xBF11127E, 0xBF19AF59, 0xBF2208AA, 0xBF2A1AC7, 0xBF31E223, 0xBF395B54,
  0xBF408310, 0xBF475632, 0xBF4DD1BB, 0xBF53F2D1, 0xBF59B6C3, 0xBF5F1B08, 0xBF641D42, 0xBF68BB3D]

/-- Entries 256 to 383 of the table of 96_carrier_table.md. -/
def carrierPart02 : List Nat := [
  0xBF6CF2F2, 0xBF70C287, 0xBF74284E, 0xBF7722C9, 0xBF79B0A9, 0xBF7BD0D0, 0xBF7D824D, 0xBF7EC462,
  0xBF7F9683, 0xBF7FF851, 0xBF7FE9A4, 0xBF7F6A80, 0xBF7E7B1D, 0xBF7D1BE6, 0xBF7B4D74, 0xBF791093,
  0xBF76663E, 0xBF734FA1, 0xBF6FCE17, 0xBF6BE32C, 0xBF679097, 0xBF62D840, 0xBF5DBC38, 0xBF583EBF,
  0xBF52623F, 0xBF4C294A, 0xBF45969E, 0xBF3EAD1D, 0xBF376FD1, 0xBF2FE1E8, 0xBF2806B4, 0xBF1FE1AA,
  0xBF17765D, 0xBF0EC880, 0xBF05DBE5, 0xBEF968EC, 0xBEE6AC74, 0xBED38A9E, 0xBEC00BD1, 0xBEAC389E,
  0xBE9819BD, 0xBE83B805, 0xBE5E38D5, 0xBE349FF8, 0xBE0AB7BB, 0xBDC1250F, 0xBD590B91, 0xBC3DB687,
  0x3CF48A4A, 0x3D91E118, 0x3DE65F83, 0x3E1D3C58, 0x3E4703D6, 0x3E7073DE, 0x3E8CBD1E, 0x3EA10274,
  0x3EB50108, 0x3EC8B012, 0x3EDC06EA, 0x3EEEFD11, 0x3F00C519, 0x3F09D313, 0x3F12A47B, 0x3F1B3573,
  0x3F238235, 0x3F2B871D, 0x3F3340A4, 0x3F3AAB65, 0x3F41C41E, 0x3F4887B0, 0x3F4EF323, 0x3F5503A3,
  0x3F5AB688, 0x3F600950, 0x3F64F9A3, 0x3F698557, 0x3F6DAA6C, 0x3F716710, 0x3F74B99E, 0x3F77A0A0,
  0x3F7A1AD0, 0x3F7C2718, 0x3F7DC490, 0x3F7EF284, 0x3F7FB06E, 0x3F7FFDFB, 0x3F7FDB0A, 0x3F7F47A8,
  0x3F7E4418, 0x3F7CD0CA, 0x3F7AEE63, 0x3F789DB6, 0x3F75DFC8, 0x3F72B5CE, 0x3F6F212A, 0x3F6B2371,
  0x3F66BE62, 0x3F61F3ED, 0x3F5CC62C, 0x3F573766, 0x3F514A0C, 0x3F4B00BA, 0x3F445E31, 0x3F3D655E,
  0x3F36194F, 0x3F2E7D3A, 0x3F269477, 0x3F1E6280, 0x3F15EAEF, 0x3F0D317C, 0x3F0439FD, 0x3EF610C4,
  0x3EE3416D, 0x3ED00E37, 0x3EBC7F93, 0x3EA89E19, 0x3E947286, 0x3E8005B6, 0x3E56C148, 0x3E2D18C4,
  0x3E03242F, 0x3DB1EBF0, 0x3D3A82A3, 0x3B86DB8A, 0xBD18D329, 0xBDA11F4E, 0xBDF58E38, 0xBE24C89D]

/-- Entries 384 to 511 of the table of 96_carrier_table.md. -/
def carrierPart03 : List Nat := [
  0xBE4E81B4, 0xBE77E00B, 0xBE9068BA, 0xBEA4A1F8, 0xBEB892DE, 0xBECC32A6, 0xBEDF78B3, 0xBEF25C8B,
  0xBF026AF1, 0xBF0B6E4C, 0xBF143462, 0xBF1CB956, 0xBF24F96B, 0xBF2CF100, 0xBF349C96, 0xBF3BF8CD,
  0xBF430269, 0xBF49B652, 0xBF501197, 0xBF56116C, 0xBF5BB32F, 0xBF60F466, 0xBF65D2C1, 0xBF6A4C1D,
  0xBF6E5E82, 0xBF720828, 0xBF754770, 0xBF781AEF, 0xBF7A8166, 0xBF7C79C8, 0xBF7E0335, 0xBF7F1D03,
  0xBF7FC6B4, 0xBF7FFFFF, 0xBF7FC8C9, 0xBF7F212C, 0xBF7E0971, 0xBF7C8213, 0xBF7A8BBE, 0xBF78274E,
  0xBF7555D1, 0xBF721885, 0xBF6E70D4, 0xBF6A605B, 0xBF65E8E2, 0xBF610C61, 0xBF5BCCFA, 0xBF562CFB,
  0xBF502EDE, 0xBF49D544, 0xBF4322F8, 0xBF3C1AEB, 0xBF34C034, 0xBF2D160F, 0xBF251FDA, 0xBF1CE114,
  0xBF145D5E, 0xBF0B9874, 0xBF029632, 0xBEF2B51A, 0xBEDFD328, 0xBECC8ED9, 0xBEB8F0A6, 0xBEA5012D,
  0xBE90C931, 0xBE78A328, 0xBE4F46AB, 0xBE258F18, 0xBDF71D88, 0xBDA2B046, 0xBD1BF70D, 0x3B5B6FCD,
  0x3D375F00, 0x3DB05B37, 0x3E025CB7, 0x3E2C5288, 0x3E55FCA0, 0x3E7F48AE, 0x3E941246, 0x3EA83F23,
  0x3EBC2211, 0x3ECFB252, 0x3EE2E74D, 0x3EF5B891, 0x3F040EED, 0x3F0D0789, 0x3F15C22B, 0x3F1E3AFD,
  0x3F266E46, 0x3F2E586C, 0x3F35F5F5, 0x3F3D4386, 0x3F443DEC, 0x3F4AE214, 0x3F512D14, 0x3F571C28,
  0x3F5CACB4, 0x3F61DC46, 0x3F66A897, 0x3F6B0F8B, 0x3F6F0F32, 0x3F72A5CC, 0x3F75D1C3, 0x3F7891B5,
  0x3F7AE46A, 0x3F7CC8DD, 0x3F7E3E3B, 0x3F7F43DE, 0x3F7FD954, 0x3F7FFE5B, 0x3F7FB2E3, 0x3F7EF70D,
  0x3F7DCB2C, 0x3F7C2FC2, 0x3F7A2586, 0x3F77AD5C, 0x3F74C85B, 0x3F7177C7, 0x3F6DBD17, 0x3F6999ED,
  0x3F65101B, 0x3F6021A0, 0x3F5AD0A5, 0x3F551F82, 0x3F4F10B7, 0x3F48A6ED, 0x3F41E4F6, 0x3F3ACDCA]

/-- Entries 512 to 639 of the table of 96_carrier_table.md. -/
def carrierPart04 : List Nat := [
  0x3F336486, 0x3F2BAC6D, 0x3F23A8E2, 0x3F1B5D6C, 0x3F12CDAF, 0x3F09FD6F, 0x3F00F08B, 0x3EEF55FA,
  0x3EDC61B2, 0x3EC90C90, 0x3EB55F15, 0x3EA161E6, 0x3E8D1DCA, 0x3E713758, 0x3E47C91A, 0x3E1E0310,
  0x3DE7EF2C, 0x3D93724B, 0x3CFAD27A, 0xBC3124E3, 0xBD55E838, 0xBDBF949C, 0xBE09F075, 0xBE33D9FE,
  0xBE5D747E, 0xBE8356D6, 0xBE97B9B6, 0xBEABD9E8, 0xBEBFAE96, 0xBED32F07, 0xBEE652AA, 0xBEF91115,
  0xBF05B107, 0xBF0E9EC2, 0xBF174DD1, 0xBF1FBA62, 0xBF27E0C2, 0xBF2FBD5C, 0xBF374CBB, 0xBF3E8B8D,
  0xBF4576A2, 0xBF4C0AF1, 0xBF524595, 0xBF5823D2, 0xBF5DA313, 0xBF62C0EE, 0xBF677B23, 0xBF6BCF9F,
  0xBF6FBC79, 0xBF733FFA, 0xBF765895, 0xBF7904EE, 0xBF7B43D9, 0xBF7D1458, 0xBF7E75A0, 0xBF7F6716,
  0xBF7FE84E, 0xBF7FF912, 0xBF7F9958, 0xBF7EC94B, 0xBF7D8947, 0xBF7BD9D8, 0xBF79BBBD, 0xBF772FE2,
  0xBF743766, 0xBF70D399, 0xBF6D05F6, 0xBF68D02B, 0xBF643410, 0xBF5F33AC, 0xBF59D132, 0xBF540EFF,
  0xBF4DEF9D, 0xBF4775BA, 0xBF40A430, 0xBF397DFE, 0xBF320648, 0xBF2A4057, 0xBF222F94, 0xBF19D78C,
  0xBF113BE8, 0xBF086072, 0xBEFE9219, 0xBEEBF370, 0xBED8ED17, 0xBEC5876A, 0xBEB1CAEE, 0xBE9DC051,
  0xBE897061, 0xBE69C817, 0xBE4048AF, 0xBE1674C7, 0xBDD8BD81, 0xBD843235, 0xBCBDB346, 0x3C95B5A6,
  0x3D746E64, 0x3DCECB45, 0x3E11823C, 0x3E3B5EE4, 0x3E64E935, 0x3E870776, 0x3E9B5EFC, 0x3EAF723A,
  0x3EC3385E, 0x3ED6A8B9, 0x3EE9BABE, 0x3EFC660D, 0x3F075138, 0x3F1033F3, 0x3F18D74F, 0x3F213781,
  0x3F2950D9, 0x3F311FCA, 0x3F38A0E4, 0x3F3FD0DB, 0x3F46AC88, 0x3F4D30E5, 0x3F535B17, 0x3F592867,
  0x3F5E9649, 0x3F63A25A, 0x3F684A62, 0x3F6C8C55, 0x3F706655, 0x3F73D6B0, 0x3F76DBE3, 0x3F79749B]

/-- Entries 640 to 767 of the table of 96_carrier_table.md. -/
def carrierPart05 : List Nat := [
  0x3F7B9FB3, 0x3F7D5C37, 0x3F7EA965, 0x3F7F86A9, 0x3F7FF3A2, 0x3F7FF021, 0x3F7F7C27, 0x3F7E97E7,
  0x3F7D43C5, 0x3F7B8057, 0x3F794E64, 0x3F76AEE1, 0x3F73A2F6, 0x3F702BFB, 0x3F6C4B74, 0x3F680316,
  0x3F6354C3, 0x3F5E4289, 0x3F58CEA3, 0x3F52FB76, 0x3F4CCB92, 0x3F4641AE, 0x3F3F60AB, 0x3F382B8E,
  0x3F30A581, 0x3F28D1D4, 0x3F20B3F7, 0x3F184F7A, 0x3F0FA80F, 0x3F06C182, 0x3EFB3F7C, 0x3EE88D89,
  0x3ED57564, 0x3EC1FF72, 0x3EAE343E, 0x3E9A1C7D, 0x3E85C102, 0x3E625580, 0x3E38C586, 0x3E0EE458,
  0x3DC988BF, 0x3D69E07A, 0x3C80915E, 0xBCD2D6B8, 0xBD89788A, 0xBDDDFEFC, 0xBE1911F0, 0xBE42E11D,
  0xBE6C5AA7, 0xBE8AB629, 0xBE9F020A, 0xBEB3080B, 0xBEC6BF5E, 0xBEDA1F5B, 0xBEED1F7D, 0xBEFFB76A,
  0xBF08EF7C, 0xBF11C715, 0xBF1A5E9F, 0xBF22B252, 0xBF2ABE86, 0xBF327FB1, 0xBF39F26B, 0xBF41136E,
  0xBF47DF98, 0xBF4E53EC, 0xBF546D95, 0xBF5A29E3, 0xBF5F8652, 0xBF648087, 0xBF691651, 0xBF6D45AD,
  0xBF710CC3, 0xBF7469EC, 0xBF775BAC, 0xBF79E0B9, 0xBF7BF7F6, 0xBF7DA079, 0xBF7ED987, 0xBF7FA297,
  0xBF7FFB4F, 0xBF7FE38A, 0xBF7F5B52, 0xBF7E62E1, 0xBF7CFAA7, 0xBF7B2340, 0xBF78DD7C, 0xBF762A5B,
  0xBF730B0D, 0xBF6F80F0, 0xBF6B8D93, 0xBF6732B3, 0xBF627238, 0xBF5D4E3B, 0xBF57C8FD, 0xBF51E4EB,
  0xBF4BA49C, 0xBF450ACF, 0xBF3E1A6B, 0xBF36D67D, 0xBF2F4235, 0xBF2760E8, 0xBF1F360E, 0xBF16C53D,
  0xBF0E1229, 0xBF0520A7, 0xBEF7E948, 0xBEE52451, 0xBED1FAA6, 0xBEBE74B5, 0xBEAA9B12, 0xBE967676,
  0xBE820FBB, 0xBE5ADFAF, 0xBE313FBA, 0xBE0751E0, 0xBDBA511D, 0xBD4B5933, 0xBC06DB40, 0x3D07FA64,
  0x3D98B7EC, 0x3DED2F88, 0x3E209F75, 0x3E4A608F, 0x3E73C8BB, 0x3E8E62E2, 0x3EA2A2D4, 0x3EB69B4E]

/-- Entries 768 to 895 of the table of 96_carrier_table.md. -/
def carrierPart06 : List Nat := [
  0x3ECA4389, 0x3EDD92E1, 0x3EF080DA, 0x3F018291, 0x3F0A8BCC, 0x3F135824, 0x3F1BE3BB, 0x3F242AD2,
  0x3F2C29C3, 0x3F33DD0C, 0x3F3B414B, 0x3F42533F, 0x3F490FCE, 0x3F4F7402, 0x3F557D0B, 0x3F5B2843,
  0x3F60732B, 0x3F655B71, 0x3F69DEED, 0x3F6DFBA1, 0x3F71AFC1, 0x3F74F9AC, 0x3F77D7EE, 0x3F7A4947,
  0x3F7C4CA2, 0x3F7DE11D, 0x3F7F0608, 0x3F7FBAE0, 0x3F7FFF56, 0x3F7FD34D, 0x3F7F36D8, 0x3F7E2A3B,
  0x3F7CADEC, 0x3F7AC294, 0x3F786908, 0x3F75A253, 0x3F726FAC, 0x3F6ED27B, 0x3F6ACC56, 0x3F665F03,
  0x3F618C73, 0x3F5C56C5, 0x3F56C043, 0x3F50CB61, 0x3F4A7ABE, 0x3F43D120, 0x3F3CD175, 0x3F357ED0,
  0x3F2DDC69, 0x3F25ED9A, 0x3F1DB5E0, 0x3F1538D8, 0x3F0C7A3D, 0x3F037DE6, 0x3EF48F8C, 0x3EE1B7D4,
  0x3ECE7CEA, 0x3EBAE742, 0x3EA6FF77, 0x3E92CE4A, 0x3E7CB931, 0x3E5366BF, 0x3E29B767, 0x3DFF7AF3,
  0x3DAB16D3, 0x3D2CCF06, 0x3A491D7C, 0xBD26877C, 0xBDA7F520, 0xBDFC5CB2, 0xBE282AAF, 0xBE51DD1E,
  0xBE7B3354, 0xBE920D93, 0xBEA6414D, 0xBEBA2BF7, 0xBECDC4D1, 0xBEE1033E, 0xBEF3DEC9, 0xBF032794,
  0xBF0C2621, 0xBF14E718, 0xBF1D669F, 0xBF25A0FA, 0xBF2D928C, 0xBF3537D7, 0xBF3C8D7F, 0xBF43904B,
  0xBF4A3D27, 0xBF509122, 0xBF568976, 0xBF5C2382, 0xBF615CD1, 0xBF663316, 0xBF6AA432, 0xBF6EAE32,
  0xBF724F4D, 0xBF7585ED, 0xBF7850A7, 0xBF7AAE42, 0xBF7C9DB4, 0xBF7E1E22, 0xBF7F2EE5, 0xBF7FCF83,
  0xBF7FFFB6, 0xBF7FBF6A, 0xBF7F0EBA, 0xBF7DEDF4, 0xBF7C5D98, 0xBF7A5E54, 0xBF77F10A, 0xBF7516CA,
  0xBF71D0D6, 0xBF6E209E, 0xBF6A07C0, 0xBF65880A, 0xBF60A376, 0xBF5B5C2A, 0xBF55B479, 0xBF4FAEDD,
  0xBF494DFD, 0xBF4294A7, 0xBF3B85CE, 0xBF34248D, 0xBF2C7422, 0xBF2477EE, 0xBF1C3373, 0xBF13AA54]

/-- Entries 896 to 1023 of the table of 96_carrier_table.md. -/
def carrierPart07 : List Nat := [
  0xBF0AE050, 0xBF01D945, 0xBEF13253, 0xBEDE481E, 0xBECAFC3B, 0xBEB75724, 0xBEA3617B, 0xBE8F2406,
  0xBE754F52, 0xBE4BEACC, 0xBE222CA9, 0xBDF04E82, 0xBD9BDA18, 0xBD0E4263, 0x3BDB6F7C, 0x3D451234,
  0x3DB72FEF, 0x3E05C322, 0x3E2FB384, 0x3E5956AF, 0x3E814D2C, 0x3E95B62E, 0x3EA9DD66, 0x3EBDB9F8,
  0x3ED1432A, 0x3EE47065, 0x3EF7393E, 0x3F04CAB9, 0x3F0DBE78, 0x3F1673EC, 0x3F1EE743, 0x3F2714C5,
  0x3F2EF8DB, 0x3F36900C, 0x3F3DD703, 0x3F44CA8D, 0x3F4B679D, 0x3F51AB49, 0x3F5792D1, 0x3F5D1B9E,
  0x3F624340, 0x3F670773, 0x3F6B6620, 0x3F6F5D5A, 0x3F72EB64, 0x3F760EAE, 0x3F78C5D6, 0x3F7B0FAB,
  0x3F7CEB2C, 0x3F7E5788, 0x3F7F541E, 0x3F7FE080, 0x3F7FFC70, 0x3F7FA7E1, 0x3F7EE2F9, 0x3F7DAE0F,
  0x3F7C09A9, 0x3F79F682, 0x3F777582, 0x3F7487C2, 0x3F712E8D, 0x3F6D6B5B, 0x3F693FD4, 0x3F64ADCC,
  0x3F5FB745, 0x3F5A5E6F, 0x3F54A5A2, 0x3F4E8F63, 0x3F481E5D, 0x3F415567, 0x3F3A377A, 0x3F32C7B8,
  0x3F2B0965, 0x3F22FFE9, 0x3F1AAECB, 0x3F1219B4, 0x3F094468, 0x3F0032C9, 0x3EEDD1AA, 0x3EDAD53E,
  0x3EC778A7, 0x3EB3C468, 0x3E9FC12A, 0x3E8B77B7, 0x3E6DE1F3, 0x3E446BEF, 0x3E1A9F9A, 0x3DE11EA3,
  0x3D8C9B25, 0x3CDF676F, 0xBC67FFC3, 0xBD639A1C, 0xBDC66821, 0xBE0D5602, 0xBE3739D7, 0xBE60CD27,
  0xBE84FED6, 0xBE995CA7, 0xBEAD7713, 0xBEC14544, 0xBED4BE86, 0xBEE7DA4B, 0xBEFA902C, 0xBF066BF8,
  0xBF0F54C8, 0xBF17FE9C, 0xBF2065A4, 0xBF28862F, 0xBF305CAB, 0xBF37E5A7, 0xBF3F1DD2, 0xBF460201,
  0xBF4C8F2C, 0xBF52C272, 0xBF58991A, 0xBF5E1092, 0xBF632674, 0xBF67D884, 0xBF6C24B2, 0xBF700919,
  0xBF738404, 0xBF7693EC, 0xBF793778, 0xBF7B6D7F, 0xBF7D3509, 0xBF7E8D4C, 0xBF7F75B3, 0xBF7FEDD7]

/-- Entries 1024 to 1151 of the table of 96_carrier_table.md. -/
def carrierPart08 : List Nat := [
  0xBF7FF583, 0xBF7F8CB3, 0xBF7EB396, 0xBF7D6A8B, 0xBF7BB223, 0xBF798B1F, 0xBF76F672, 0xBF73F53E,
  0xBF7088D4, 0xBF6CB2B6, 0xBF687494, 0xBF63D04A, 0xBF5EC7E4, 0xBF595D96, 0xBF5393C4, 0xBF4D6CF6,
  0xBF46EBE3, 0xBF401365, 0xBF38E67E, 0xBF316856, 0xBF299C38, 0xBF218591, 0xBF1927EE, 0xBF1086FE,
  0xBF07A68A, 0xBEFD14F4, 0xBEEA6D9C, 0xBED75F3E, 0xBEC3F23B, 0xBEB02F1D, 0xBE9C1E91, 0xBE87C96B,
  0xBE667130, 0xBE3CEA46, 0xBE131057, 0xBDD1EB8F, 0xBD7AB45F, 0xBCA246E9, 0x3CB1223D, 0x3D810F63,
  0x3DD59D7F, 0x3E14E6DE, 0x3E3EBD8D, 0x3E684069, 0x3E88AE9B, 0x3E9D00F0, 0x3EB10E47, 0x3EC4CDCF,
  0x3ED836DA, 0x3EEB40E2, 0x3EFDE387, 0x3F080B4D, 0x3F10E90E, 0x3F198720, 0x3F21E1BA, 0x3F29F531,
  0x3F31BDF8, 0x3F3938A2, 0x3F4061E7, 0x3F4736A2, 0x3F4DB3D1, 0x3F53D69A, 0x3F599C4C, 0x3F5F025C,
  0x3F64066C, 0x3F68A647, 0x3F6CDFE5, 0x3F70B16B, 0x3F74192B, 0x3F7715A6, 0x3F79A58C, 0x3F7BC7BD,
  0x3F7D7B49, 0x3F7EBF70, 0x3F7F93A4, 0x3F7FF787, 0x3F7FEAEF, 0x3F7F6DE0, 0x3F7E8091, 0x3F7D236A,
  0x3F7B5706, 0x3F791C2E, 0x3F7673DD, 0x3F735F3E, 0x3F6FDFAC, 0x3F6BF6B0, 0x3F67A603, 0x3F62EF89,
  0x3F5DD555, 0x3F5859A4, 0x3F527EE0, 0x3F4C479C, 0x3F45B692, 0x3F3ECEA6, 0x3F3792DF, 0x3F30066D,
  0x3F282CA0, 0x3F2008EB, 0x3F179EE3, 0x3F0EF239, 0x3F0606BE, 0x3EF9C0B9, 0x3EE70636, 0x3ED3E62C,
  0x3EC06904, 0x3EAC974E, 0x3E9879BF, 0x3E84192F, 0x3E5EFD23, 0x3E3565EB, 0x3E0B7EFB, 0x3DC2B57C,
  0x3D5C2EE1, 0x3C4A4824, 0xBCEE4211, 0xBD904FE0, 0xBDE4CFD1, 0xBE1C759A, 0xBE463E8A, 0xBE6FB05C,
  0xBE8C5C6C, 0xBEA0A2FC, 0xBEB4A2F4, 0xBEC8538B, 0xBEDBAC19, 0xBEEEA41E, 0xBF0099A2, 0xBF09A8B1]

/-- Entries 1152 to 1279 of the table of 96_carrier_table.md. -/
def carrierPart09 : List Nat := [
  0xBF127B42, 0xBF1B0D74, 0xBF235B82, 0xBF2B61C7, 0xBF331CBB, 0xBF3A88F9, 0xBF41A33E, 0xBF48686B,
  0xBF4ED586, 0xBF54E7BC, 0xBF5A9C63, 0xBF5FF0F8, 0xBF64E323, 0xBF6970B9, 0xBF6D97B8, 0xBF71564F,
  0xBF74AAD7, 0xBF7793DA, 0xBF7A1011, 0xBF7C1E64, 0xBF7DBDEB, 0xBF7EEDF1, 0xBF7FADEF, 0xBF7FFD91,
  0xBF7FDCB5, 0xBF7F4B68, 0xBF7E49EA, 0xBF7CD8AD, 0xBF7AF853, 0xBF78A9AF, 0xBF75EDC4, 0xBF72C5C6,
  0xBF6F3319, 0xBF6B374D, 0xBF66D424, 0xBF620B8B, 0xBF5CDF9C, 0xBF57529C, 0xBF5166FD, 0xBF4B1F58,
  0xBF447E70, 0xBF3D872E, 0xBF363CA2, 0xBF2EA201, 0xBF26BAA2, 0xBF1E89FD, 0xBF1613AD, 0xBF0D5B6A,
  0xBF046508, 0xBEF668EF, 0xBEE39B85, 0xBED06A15, 0xBEBCDD0E, 0xBEA8FD09, 0xBE94D2C0, 0xBE806711,
  0xBE5785E9, 0xBE2DDEF9, 0xBE03EBA2, 0xBDB37CA2, 0xBD3DA640, 0xBB9FFF29, 0x3D15AF40, 0x3D9F8E4F,
  0x3DF3FEDF, 0x3E24021B, 0x3E4DBCB4, 0x3E771CE3, 0x3E90083D, 0x3EA442BD, 0x3EB8350E, 0x3ECBD66C,
  0x3EDF1E35, 0x3EF203F3, 0x3F023FAA, 0x3F0B441F, 0x3F140B60, 0x3F1C9192, 0x3F24D2F6, 0x3F2CCBEB,
  0x3F3478F1, 0x3F3BD6A7, 0x3F42E1D2, 0x3F499759, 0x3F4FF448, 0x3F55F5D5, 0x3F5B995C, 0x3F60DC61,
  0x3F65BC96, 0x3F6A37D6, 0x3F6E4C28, 0x3F71F7C1, 0x3F753906, 0x3F780E87, 0x3F7A7705, 0x3F7C7172,
  0x3F7DFCF0, 0x3F7F18D0, 0x3F7FC495, 0x3F7FFFF5, 0x3F7FCAD5, 0x3F7F254C, 0x3F7E0FA3, 0x3F7C8A55,
  0x3F7A960C, 0x3F7833A4, 0x3F756429, 0x3F7228D8, 0x3F6E831C, 0x3F6A7490, 0x3F65FEFB, 0x3F612454,
  0x3F5BE6BC, 0x3F564882, 0x3F504C1D, 0x3F49F42E, 0x3F434380, 0x3F3C3D02, 0x3F34E3CC, 0x3F2D3B17,
  0x3F254643, 0x3F1D08CD, 0x3F148654, 0x3F0BC297, 0x3F02C16F, 0x3EF30DA0, 0x3EE02D94, 0x3ECCEB04]

/-- Entries 1280 to 1407 of the table of 96_carrier_table.md. -/
def carrierPart10 : List Nat := [
  0x3EB94E67, 0x3EA5605B, 0x3E9129A2, 0x3E79663C, 0x3E500B9B, 0x3E26558D, 0x3DF8ACCD, 0x3DA44139,
  0x3D1F1AEA, 0xBB29287C, 0xBD343B55, 0xBDAECA77, 0xBE01953A, 0xBE2B8C46, 0xBE5537EF, 0xBE7E85E5,
  0xBE93B201, 0xBEA7E027, 0xBEBBC488, 0xBECF5664, 0xBEE28D23, 0xBEF56054, 0xBF03E3D8, 0xBF0CDD90,
  0xBF159961, 0xBF1E1374, 0xBF26480F, 0xBF2E3398, 0xBF35D293, 0xBF3D21A7, 0xBF441D9E, 0xBF4AC366,
  0xBF511014, 0xBF5700E1, 0xBF5C9333, 0xBF61C496, 0xBF6692C3, 0xBF6AFB9C, 0xBF6EFD31, 0xBF7295C1,
  0xBF75C3B5, 0xBF7885A9, 0xBF7ADA66, 0xBF7CC0E7, 0xBF7E3855, 0xBF7F400B, 0xBF7FD795, 0xBF7FFEB2,
  0xBF7FB54F, 0xBF7EFB8D, 0xBF7DD1BD, 0xBF7C3863, 0xBF7A3032, 0xBF77BA0F, 0xBF74D70E, 0xBF718876,
  0xBF6DCFB9, 0xBF69AE7A, 0xBF65268A, 0xBF6039E7, 0xBF5AEABA, 0xBF553B59, 0xBF4F2E44, 0xBF48C623,
  0xBF4205C7, 0xBF3AF027, 0xBF338861, 0xBF2BD1B5, 0xBF23CF88, 0xBF1B855F, 0xBF12F6DD, 0xBF0A27C6,
  0xBF011BF8, 0xBEEFAEDB, 0xBEDCBC72, 0xBEC96908, 0xBEB5BD1B, 0xBEA1C151, 0xBE8D7E71, 0xBE71FAC8,
  0xBE488E56, 0xBE1EC9C2, 0xBDE97ECC, 0xBD950378, 0xBD008D50, 0x3C249338, 0x3D52C4D7, 0x3DBE0420,
  0x3E09292A, 0x3E3313FE, 0x3E5CB01F, 0x3E82F5A2, 0x3E9759A9, 0x3EAB7B2C, 0x3EBF5153, 0x3ED2D368,
  0x3EE5F8D6, 0x3EF8B935, 0x3F058623, 0x3F0E74FF, 0x3F172540, 0x3F1F9315, 0x3F27BACA, 0x3F2F98C9,
  0x3F37299E, 0x3F3E69F5, 0x3F45569F, 0x3F4BEC90, 0x3F5228E4, 0x3F5808DC, 0x3F5D89E5, 0x3F62A993,
  0x3F6765A6, 0x3F6BBC08, 0x3F6FAAD2, 0x3F73304A, 0x3F764AE3, 0x3F78F940, 0x3F7B3A34, 0x3F7D0CC1,
  0x3F7E701A, 0x3F7F63A2, 0x3F7FE6EF, 0x3F7FF9C8, 0x3F7F9C23, 0x3F7ECE2A, 0x3F7D9038, 0x3F7BE2D8]

/-- Entries 1408 to 1535 of the table of 96_carrier_table.md. -/
def carrierPart11 : List Nat := [
  0x3F79C6C6, 0x3F773CF1, 0x3F744676, 0x3F70E4A2, 0x3F6D18F1, 0x3F68E50F, 0x3F644AD4, 0x3F5F4C47,
  0x3F59EB98, 0x3F542B26, 0x3F4E0D77, 0x3F47953B, 0x3F40C549, 0x3F39A0A1, 0x3F322A67, 0x3F2A65E0,
  0x3F225678, 0x3F19FFB9, 0x3F11654D, 0x3F088AFC, 0x3EFEE954, 0x3EEC4CAA, 0x3ED94829, 0x3EC5E42C,
  0x3EB22938, 0x3E9E1FF9, 0x3E89D13C, 0x3E6A8BE0, 0x3E410E35, 0x3E173BB3, 0x3DDA4D75, 0x3D85C397,
  0x3CC3FBC0, 0xBC8F6CFC, 0xBD714B58, 0xBDCD3B15, 0xBE10BB26, 0xBE3A9928, 0xBE64252A, 0xBE86A674,
  0xBE9AFF28, 0xBEAF13BE, 0xBEC2DB65, 0xBED64D6A, 0xBEE96142, 0xBEFC0E8A, 0xBF072687, 0xBF100A65,
  0xBF18AEF7, 0xBF21106F, 0xBF292B20, 0xBF30FB79, 0xBF387E0C, 0xBF3FAF8C, 0xBF468CCF, 0xBF4D12D1,
  0xBF533EB4, 0xBF590DC3, 0xBF5E7D6E, 0xBF638B54, 0xBF68353C, 0xBF6C7917, 0xBF705508, 0xBF73C75B,
  0xBF76CE8E, 0xBF79694A, 0xBF7B966C, 0xBF7D54FF, 0xBF7EA43D, 0xBF7F8395, 0xBF7FF2A3, 0xBF7FF137,
  0xBF7F7F52, 0xBF7E9D26, 0xBF7D4B15, 0xBF7B89B5, 0xBF7959CB, 0xBF76BC4D, 0xBF73B261, 0xBF703D5E,
  0xBF6C5EC8, 0xBF681852, 0xBF636BDD, 0xBF5E5B78, 0xBF58E95B, 0xBF5317EC, 0xBF4CE9B9, 0xBF46617A,
  0xBF3F820C, 0xBF384E76, 0xBF30C9E2, 0xBF28F79D, 0xBF20DB17, 0xBF1877E1, 0xBF0FD1AA, 0xBF06EC40,
  0xBEFB9715, 0xBEE8E71B, 0xBED5D0C7, 0xBEC25C7D, 0xBEAE92CA, 0xBE9A7C5F, 0xBE862210, 0xBE6319A0,
  0xBE398B52, 0xBE0FAB7B, 0xBDCB1902, 0xBD6D039B, 0xBC86DA14, 0x3CCC8E51, 0x3D87E734, 0x3DDC6F1B,
  0x3E184B12, 0x3E421BA9, 0x3E6B96F3, 0x3E8A555B, 0x3E9EA271, 0x3EB2A9D2, 0x3EC662AF, 0x3ED9C45D,
  0x3EECC659, 0x3EFF6047, 0x3F08C4FE, 0x3F119DBE, 0x3F1A3680, 0x3F228B7D, 0x3F2A990C, 0x3F325BA3]

/-- Entries 1536 to 1663 of the table of 96_carrier_table.md. -/
def carrierPart12 : List Nat := [
  0x3F39CFD9, 0x3F40F266, 0x3F47C029, 0x3F4E3625, 0x3F545181, 0x3F5A0F90, 0x3F5F6DCB, 0x3F6469D7,
  0x3F690182, 0x3F6D32C7, 0x3F70FBD1, 0x3F745AF3, 0x3F774EB4, 0x3F79D5C6, 0x3F7BEF0E, 0x3F7D99A0,
  0x3F7ED4C0, 0x3F7F9FE3, 0x3F7FFAB1, 0x3F7FE501, 0x3F7F5EDD, 0x3F7E687F, 0x3F7D0255, 0x3F7B2CFC,
  0x3F78E941, 0x3F763824, 0x3F731AD3, 0x3F6F92AD, 0x3F6BA13F, 0x3F674845, 0x3F6289A8, 0x3F5D677D,
  0x3F57E406, 0x3F5201B0, 0x3F4BC310, 0x3F452AE5, 0x3F3E3C14, 0x3F36F9AA, 0x3F2F66D8, 0x3F2786F0,
  0x3F1F5D6A, 0x3F16EDDC, 0x3F0E3BFA, 0x3F054B97, 0x3EF8413F, 0x3EE57E39, 0x3ED25658, 0x3EBED209,
  0x3EAAF9DF, 0x3E96D691, 0x3E8270FB, 0x3E5BA423, 0x3E3205CB, 0x3E081937, 0x3DBBE1A9, 0x3D4E7CA7,
  0x3C136CF9, 0xBD04D65D, 0xBD9726CC, 0xBDEB9FFD, 0xBE1FD8D1, 0xBE499B65, 0xBE730561, 0xBE8E0248,
  0xBEA24378, 0xBEB63D59, 0xBEC9E724, 0xBEDD3835, 0xBEF0280F, 0xBF015730, 0xBF0A6181, 0xBF132F03,
  0xBF1BBBD7, 0xBF24043A, 0xBF2C048A, 0xBF33B942, 0xBF3B1EFF, 0xBF423280, 0xBF48F0AB, 0xBF4F5688,
  0xBF556148, 0xBF5B0E42, 0xBF605AF9, 0xBF654517, 0xBF69CA75, 0xBF6DE916, 0xBF719F29, 0xBF74EB0E,
  0xBF77CB52, 0xBF7A3EB2, 0xBF7C4418, 0xBF7DDAA3, 0xBF7F019F, 0xBF7FB88C, 0xBF7FFF17, 0xBF7FD523,
  0xBF7F3AC3, 0xBF7E3038, 0xBF7CB5FA, 0xBF7ACCAE, 0xBF78752B, 0xBF75B078, 0xBF727FCD, 0xBF6EE492,
  0xBF6AE05B, 0xBF6674EC, 0xBF61A437, 0xBF5C705A, 0xBF56DB9D, 0xBF50E875, 0xBF4A997E, 0xBF43F180,
  0xBF3CF365, 0xBF35A242, 0xBF2E014D, 0xBF2613E0, 0xBF1DDD78, 0xBF1561B0, 0xBF0CA443, 0xBF03A907,
  0xBEF4E7E0, 0xBEE21211, 0xBECED8EA, 0xBEBB44DC, 0xBEA75E83, 0xBE932E9D, 0xBE7D7C11, 0xBE542B84]

/-- Entries 1664 to 1791 of the table of 96_carrier_table.md. -/
def carrierPart13 : List Nat := [
  0xBE2A7DB9, 0xBE008502, 0xBDACA7A3, 0xBD2FF2C2, 0xBAC91D78, 0x3D2363AD, 0x3DA6643C, 0x3DFACD83,
  0x3E276449, 0x3E511842, 0x3E7A7057, 0x3E91AD2F, 0x3EA5E22E, 0x3EB9CE47, 0x3ECD68B9, 0x3EE0A8E6,
  0x3EF38659, 0x3F02FC64, 0x3F0BFC0C, 0x3F14BE2F, 0x3F1D3EF5, 0x3F257AA0, 0x3F2D6D94, 0x3F351450,
  0x3F3C6B7A, 0x3F436FD6, 0x3F4A1E4F, 0x3F5073F6, 0x3F566E03, 0x3F5C09D4, 0x3F6144F3, 0x3F661D13,
  0x3F6A9013, 0x3F6E9BFF, 0x3F723F10, 0x3F7577AC, 0x3F784469, 0x3F7AA40B, 0x3F7C9589, 0x3F7E1808,
  0x3F7F2ADC, 0x3F7FCD8F, 0x3F7FFFD7, 0x3F7FC1A0, 0x3F7F1305, 0x3F7DF451, 0x3F7C6604, 0x3F7A68CC,
  0x3F77FD89, 0x3F75254B, 0x3F71E152, 0x3F6E330E, 0x3F6A1C1D, 0x3F659E4A, 0x3F60BB8F, 0x3F5B7612,
  0x3F55D023, 0x3F4FCC3F, 0x3F496D09, 0x3F42B54F, 0x3F3BA805, 0x3F344843, 0x3F2C9947, 0x3F249E72,
  0x3F1C5B46, 0x3F13D363, 0x3F0B0A8A, 0x3F020497, 0x3EF18B02, 0x3EDEA2B0, 0x3ECB5888, 0x3EB7B504,
  0x3EA3C0C5, 0x3E8F848F, 0x3E761290, 0x3E4CAFDE, 0x3E22F339, 0x3DF1DDF1, 0x3D9D6B26, 0x3D11665A,
  0xBBC24BED, 0xBD41EEA9, 0xBDB59F4D, 0xBE04FBBB, 0xBE2EED5E, 0xBE589223, 0xBE80EBDD, 0xBE955602,
  0xBEA97E86, 0xBEBD5C8E, 0xBED0E75F, 0xBEE41663, 0xBEF6E12A, 0xBF049FBA, 0xBF0D9497, 0xBF164B3C,
  0xBF1EBFD5, 0xBF26EEAA, 0xBF2ED424, 0xBF366CCA, 0xBF3DB545, 0xBF44AA61, 0xBF4B4911, 0xBF518E6C,
  0xBF5777AF, 0xBF5D0242, 0xBF622BB6, 0xBF66F1C6, 0xBF6B5258, 0xBF6F4B81, 0xBF72DB82, 0xBF7600C9,
  0xBF78B9F4, 0xBF7B05D2, 0xBF7CE360, 0xBF7E51CC, 0xBF7F5075, 0xBF7FDEEC, 0xBF7FFCF1, 0xBF7FAA77,
  0xBF7EE7A4, 0xBF7DB4CB, 0xBF7C1274, 0xBF7A0158, 0xBF77825E, 0xBF74969F, 0xBF713F64, 0xBF6D7E25]

/-- Entries 1792 to 1919 of the table of 96_carrier_table.md. -/
def carrierPart14 : List Nat := [
  0xBF695488, 0xBF64C461, 0xBF5FCFB2, 0xBF5A78A9, 0xBF54C19D, 0xBF4EAD12, 0xBF483DB5, 0xBF417658,
  0xBF3A59F7, 0xBF32EBB1, 0xBF2B2ECB, 0xBF2326AB, 0xBF1AD6D8, 0xBF1242FA, 0xBF096ED6, 0xBF005E4C,
  0xBEEE2AB2, 0xBEDB3023, 0xBEC7D540, 0xBEB4228D, 0xBEA020B0, 0xBE8BD875, 0xBE6EA58C, 0xBE45314D,
  0xBE1B6666, 0xBDE2AE6A, 0xBD8E2C6A, 0xBCE5AFBD, 0x3C5B6E3A, 0x3D6076E0, 0x3DC4D7C7, 0x3E0C8ECE,
  0x3E3673F4, 0x3E6008ED, 0x3E849DB9, 0x3E98FCB4, 0x3EAD1873, 0x3EC0E822, 0x3ED4630B, 0x3EE7809E,
  0x3EFA3876, 0x3F06412C, 0x3F0F2B1D, 0x3F17D624, 0x3F203E71, 0x3F286053, 0x3F303836, 0x3F37C2A9,
  0x3F3EFC5B, 0x3F45E21F, 0x3F4C70ED, 0x3F52A5E4, 0x3F587E49, 0x3F5DF78A, 0x3F630F40, 0x3F67C32E,
  0x3F6C1143, 0x3F6FF79A, 0x3F73747D, 0x3F768663, 0x3F792BF4, 0x3F7B6404, 0x3F7D2D9C, 0x3F7E87F0,
  0x3F7F726B, 0x3F7FECA3, 0x3F7FF664, 0x3F7F8FA9, 0x3F7EB8A0, 0x3F7D71A6, 0x3F7BBB4D, 0x3F799653,
  0x3F7703AB, 0x3F740476, 0x3F709A05, 0x3F6CC5D8, 0x3F68899F, 0x3F63E735, 0x3F5EE0A4, 0x3F597822,
  0x3F53B00E, 0x3F4D8AF3, 0x3F470B85, 0x3F40349E, 0x3F390941, 0x3F318C92, 0x3F29C1DE, 0x3F21AC90,
  0x3F195035, 0x3F10B07B, 0x3F07D12C, 0x3EFD6C59, 0x3EEAC6FD, 0x3ED7BA74, 0x3EC44F1F, 0x3EB08D84,
  0x3E9C7E53, 0x3E882A5D, 0x3E673520, 0x3E3DAFEC, 0x3E13D75C, 0x3DD37BA7, 0x3D7DD74E, 0x3CA88F81,
  0xBCAAD9AE, 0xBD7EFBE4, 0xBDD40D71, 0xBE141FE1, 0xBE3DF7F0, 0xBE677C85, 0xBE884DB0, 0xBE9CA137,
  0xBEB0AFE9, 0xBEC470F6, 0xBED7DBAF, 0xBEEAE78D, 0xBEFD8C30, 0xBF07E0B3, 0xBF10BF98, 0xBF195EE1,
  0xBF21BAC4, 0xBF29CF94, 0xBF3199C5, 0xBF3915EA, 0xBF4040B8, 0xBF47170A, 0xBF4D95DF, 0xBF53BA5B]

/-- Entries 1920 to 2047 of the table of 96_carrier_table.md. -/
def carrierPart15 : List Nat := [
  0xBF5981CC, 0xBF5EE9A7, 0xBF63EF8D, 0xBF689148, 0xBF6CCCCF, 0xBF70A047, 0xBF740A00, 0xBF77087A,
  0xBF799A66, 0xBF7BBEA1, 0xBF7D743B, 0xBF7EBA73, 0xBF7F90BB, 0xBF7FF6B4, 0xBF7FEC30, 0xBF7F7136,
  0xBF7E85FA, 0xBF7D2AE5, 0xBF7B608E, 0xBF7927BF, 0xBF768173, 0xBF736ED2, 0xBF6FF138, 0xBF6C0A2C,
  0xBF67BB65, 0xBF6306C9, 0xBF5DEE69, 0xBF587481, 0xBF529B7A, 0xBF4C65E6, 0xBF45D67F, 0xBF3EF027,
  0xBF37B5E7, 0xBF302AEB, 0xBF285285, 0xBF203027, 0xBF17C763, 0xBF0F1BEC, 0xBF063192, 0xBEFA187D,
  0xBEE75FEF, 0xBED441B3, 0xBEC0C630, 0xBEACF5F7, 0xBE98D9BB, 0xBE847A54, 0xBE5FC169, 0xBE362BD7,
  0xBE0C4636, 0xBDC445E0, 0xBD5F5229, 0xBC56D9B9, 0x3CE7F9CF, 0x3D8EBEA2, 0x3DE34016, 0x3E1BAED6,
  0x3E457937, 0x3E6EECD0, 0x3E8BFBB5, 0x3EA0437E, 0x3EB444D9, 0x3EC7F6FD, 0x3EDB5140, 0x3EEE4B22,
  0x3F006E26, 0x3F097E4B, 0x3F125203, 0x3F1AE56F, 0x3F2334C9, 0x3F2B3C6A, 0x3F32F8CB, 0x3F3A6686,
  0x3F418257, 0x3F48491E, 0x3F4EB7E2, 0x3F54CBCD, 0x3F5A8235, 0x3F5FD897, 0x3F64CC9A, 0x3F695C11,
  0x3F6D84FB, 0x3F714585, 0x3F749C07, 0x3F77870B, 0x3F7A0548, 0x3F7C15A6, 0x3F7DB73D, 0x3F7EE954,
  0x3F7FAB66, 0x3F7FFD1E, 0x3F7FDE56, 0x3F7F4F1E, 0x3F7E4FB3, 0x3F7CE086, 0x3F7B0239, 0x3F78B59D,
  0x3F75FBB6, 0x3F72D5B6, 0x3F6F44FE, 0x3F6B4B21, 0x3F66E9DE, 0x3F622320, 0x3F5CF903, 0x3F576DCA,
  0x3F5183E5, 0x3F4B3DEE, 0x3F449EA6, 0x3F3DA8F7, 0x3F365FEF, 0x3F2EC6C1, 0x3F26E0C6, 0x3F1EB174,
  0x3F163C66, 0x3F0D8552, 0x3F04900E, 0x3EF6C10F, 0x3EE3F593, 0x3ED0C5EA, 0x3EBD3A82, 0x3EA95BF2,
  0x3E9532F4, 0x3E80C866, 0x3E584A81, 0x3E2EA528, 0x3E04B310, 0x3DB50D4D, 0x3D40C9D6, 0x3BB922C2]

/-- Entries 2048 to 2175 of the table of 96_carrier_table.md. -/
def carrierPart16 : List Nat := [
  0xBD128B50, 0xBD9DFD4A, 0xBDF26F7D, 0xBE233B93, 0xBE4CF7AC, 0xBE7659B3, 0xBE8FA7BB, 0xBEA3E37C,
  0xBEB7D738, 0xBECB7A29, 0xBEDEC3AF, 0xBEF1AB51, 0xBF02145F, 0xBF0B19EC, 0xBF13E258, 0xBF1C69C7,
  0xBF24AC7A, 0xBF2CA6CF, 0xBF345544, 0xBF3BB47A, 0xBF42C134, 0xBF497858, 0xBF4FD6F2, 0xBF55DA36,
  0xBF5B7F80, 0xBF60C455, 0xBF65A663, 0xBF6A2386, 0xBF6E39C4, 0xBF71E752, 0xBF752A92, 0xBF780214,
  0xBF7A6C9A, 0xBF7C6913, 0xBF7DF6A0, 0xBF7F1493, 0xBF7FC26C, 0xBF7FFFE1, 0xBF7FCCD6, 0xBF7F2962,
  0xBF7E15CC, 0xBF7C928D, 0xBF7AA050, 0xBF783FF0, 0xBF757277, 0xBF723922, 0xBF6E955B, 0xBF6A88BB,
  0xBF66150B, 0xBF613C3E, 0xBF5C0076, 0xBF566400, 0xBF506953, 0xBF4A1310, 0xBF436400, 0xBF3C5F12,
  0xBF35075C, 0xBF2D6019, 0xBF256CA5, 0xBF1D307F, 0xBF14AF45, 0xBF0BECB4, 0xBF02ECA6, 0xBEF3661D,
  0xBEE087F8, 0xBECD4727, 0xBEB9AC21, 0xBEA5BF82, 0xBE918A0D, 0xBE7A2946, 0xBE50D083, 0xBE271BFC,
  0xBDFA3C0A, 0xBDA5D225, 0xBD223EC2, 0x3AEDC249, 0x3D3117A3, 0x3DAD39B0, 0x3E00CDB7, 0x3E2AC5FD,
  0x3E547336, 0x3E7DC312, 0x3E9351B5, 0x3EA78124, 0x3EBB66F7, 0x3ECEFA6F, 0x3EE232F2, 0x3EF5080D,
  0x3F03B8BD, 0x3F0CB392, 0x3F157091, 0x3F1DEBE4, 0x3F2621D1, 0x3F2E0EBD, 0x3F35AF2B, 0x3F3CFFC1,
  0x3F43FD4A, 0x3F4AA4B1, 0x3F50F30B, 0x3F56E593, 0x3F5C79AA, 0x3F61ACDE, 0x3F667CE6, 0x3F6AE7A4,
  0x3F6EEB27, 0x3F7285AC, 0x3F75B59D, 0x3F787994, 0x3F7AD05A, 0x3F7CB8E7, 0x3F7E3265, 0x3F7F3C2D,
  0x3F7FD5CC, 0x3F7FFEFE, 0x3F7FB7B0, 0x3F7F0002, 0x3F7DD844, 0x3F7C40F9, 0x3F7A3AD4, 0x3F77C6B8,
  0x3F74E5B9, 0x3F71991B, 0x3F6DE251, 0x3F69C2FE, 0x3F653CF0, 0x3F605225, 0x3F5B04C6, 0x3F555728]

/-- Entries 2176 to 2303 of the table of 96_carrier_table.md. -/
def carrierPart17 : List Nat := [
  0x3F4F4BC8, 0x3F48E550, 0x3F422690, 0x3F3B127D, 0x3F33AC35, 0x3F2BF6F8, 0x3F23F628, 0x3F1BAD4C,
  0x3F132005, 0x3F0A5217, 0x3F014760, 0x3EF007B2, 0x3EDD1729, 0x3EC9C577, 0x3EB61B1A, 0x3EA220B6,
  0x3E8DDF13, 0x3E72BE2E, 0x3E49538A, 0x3E1F906D, 0x3DEB0E63, 0x3D96949F, 0x3D03B15E, 0xBC180187,
  0xBD4FA16E, 0xBDBC739E, 0xBE0861DA, 0xBE324DF6, 0xBE5BEBB7, 0xBE82946A, 0xBE96F995, 0xBEAB1C68,
  0xBEBEF40A, 0xBED277C1, 0xBEE59EFA, 0xBEF8614B, 0xBF055B3B, 0xBF0E4B35, 0xBF16FCA8, 0xBF1F6BC1,
  0xBF2794CB, 0xBF2F7430, 0xBF37067A, 0xBF3E4856, 0xBF453694, 0xBF4BCE27, 0xBF520C2A, 0xBF57EDDE,
  0xBF5D70AF, 0xBF629230, 0xBF67501F, 0xBF6BA868, 0xBF6F9922, 0xBF732090, 0xBF763D27, 0xBF78ED89,
  0xBF7B3085, 0xBF7D0520, 0xBF7E6A89, 0xBF7F6025, 0xBF7FE587, 0xBF7FFA74, 0xBF7F9EE4, 0xBF7ED2FF,
  0xBF7D971F, 0xBF7BEBCD, 0xBF79D1C6, 0xBF7749F7, 0xBF74557C, 0xBF70F5A1, 0xBF6D2BE3, 0xBF68F9EA,
  0xBF646190, 0xBF5F64D9, 0xBF5A05F7, 0xBF544744, 0xBF4E2B49, 0xBF47B4B3, 0xBF40E65B, 0xBF39C33E,
  0xBF324E7E, 0xBF2A8B63, 0xBF227D55, 0xBF1A27E0, 0xBF118EAC, 0xBF08B581, 0xBEFF4084, 0xBEECA5DB,
  0xBED9A332, 0xBEC640E6, 0xBEB2877A, 0xBE9E7F9A, 0xBE8A3212, 0xBE6B4FA0, 0xBE41D3B3, 0xBE180298,
  0xBDDBDD62, 0xBD8754F3, 0xBCCA4432, 0x3C89244D, 0x3D6E2844, 0x3DCBAADC, 0x3E0FF40B, 0x3E39D365,
  0x3E636116, 0x3E86456D, 0x3E9A9F4E, 0x3EAEB53C, 0x3EC27E63, 0x3ED5F212, 0x3EE907BC, 0x3EFBB6FE,
  0x3F06FBD1, 0x3F0FE0D2, 0x3F188698, 0x3F20E957, 0x3F290560, 0x3F30D722, 0x3F385B2D, 0x3F3F8E34,
  0x3F466D0E, 0x3F4CF4B4, 0x3F532249, 0x3F58F316, 0x3F5E648C, 0x3F637446, 0x3F68200C, 0x3F6C65D0]

/-- Entries 2304 to 2416 of the table of 96_carrier_table.md. -/
def carrierPart18 : List Nat := [
  0x3F7043B2, 0x3F73B7FD, 0x3F76C12F, 0x3F795DF0, 0x3F7B8D1C, 0x3F7D4DBD, 0x3F7E9F0C, 0x3F7F8077,
  0x3F7FF19A, 0x3F7FF244, 0x3F7F8273, 0x3F7EA25A, 0x3F7D525B, 0x3F7B9309, 0x3F796529, 0x3F76C9B0,
  0x3F73C1C3, 0x3F704EB8, 0x3F6C7212, 0x3F682D84, 0x3F6382EF, 0x3F5E745E, 0x3F59040B, 0x3F53345A,
  0x3F4D07D9, 0x3F46813D, 0x3F3FA366, 0x3F387158, 0x3F30EE3C, 0x3F291D5F, 0x3F210231, 0x3F18A041,
  0x3F0FFB3F, 0x3F0716F8, 0x3EFBEEA4, 0x3EE940A3, 0x3ED62C21, 0x3EC2B981, 0x3EAEF14F, 0x3E9ADC3B,
  0x3E868319, 0x3E63DDB7, 0x3E3A5118, 0x3E107299, 0x3DCCA93E, 0x3D7026B4, 0x3C8D22C6, 0xBCC645E1,
  0xBD8655DA, 0xBDDADF32, 0xBE17842E, 0xBE41562D, 0xBE6AD336, 0xBE89F487, 0xBE9E42D2, 0xBEB24B92,
  0xBEC605F7, 0xBED96957, 0xBEEC6D2B, 0xBEFF091A, 0xBF089A7B, 0xBF117461, 0xBF1A0E5B, 0xBF2264A2,
  0xBF2A738C, 0xBF32378E, 0xBF39AD3F, 0xBF40D157, 0xBF47A0B3, 0xBF4E1856, 0xBF543566, 0xBF59F535,
  0xBF5F553C, 0xBF64531E, 0xBF68ECAA, 0xBF6D1FD9, 0xBF70EAD4, 0xBF744BF0, 0xBF7741B1, 0xBF79CACA,
  0xBF7BE61C, 0xBF7D92BD, 0xBF7ECFEE, 0xBF7F9D25, 0xBF7FFA08, 0xBF7FE66D, 0xBF7F625E, 0xBF7E6E14,
  0xBF7D09FA, 0xBF7B36AE, 0xBF78F4FC, 0xBF7645E3, 0xBF732A90, 0xBF6FA461, 0xBF6BB4E2, 0xBF675DCF,
  0xBF62A10E, 0xBF5D80B6, 0xBF57FF07, 0xBF521E6D, 0xBF4BE17C, 0xBF454AF2, 0xBF3E5DB6, 0xBF371CD1,
  0xBF2F8B74, 0xBF27ACF2, 0xBF1F84C1, 0xBF171675, 0xBF0E65C5, 0xBF057681, 0xBEF8992D, 0xBEE5D818,
  0xBED2B203]

/-- The normative carrier table of DSR-DEFAULT, all 2417 entries (R88, 96_carrier_table.md). -/
def defaultCarrier : List Word :=
  (carrierPart00 ++ carrierPart01 ++ carrierPart02 ++ carrierPart03 ++ carrierPart04 ++ carrierPart05 ++ carrierPart06 ++
    carrierPart07 ++ carrierPart08 ++ carrierPart09 ++ carrierPart10 ++ carrierPart11 ++ carrierPart12 ++ carrierPart13 ++
    carrierPart14 ++ carrierPart15 ++ carrierPart16 ++ carrierPart17 ++ carrierPart18).map (BitVec.ofNat 32)

/-- DSR-DEFAULT (R6), with the example value 256 of the open parameter MAXBITS (R8, log 2). -/
def dsrDefault : Config where
  fcHz := 19119
  symRate := 1200
  fsHz := 2900000
  amp := 0x3F800000
  pause := 71400
  maxBits := 256
  carrier := defaultCarrier

/-- TOY of 95_test_vectors.md section 0. -/
def toy : Config where
  fcHz := 2
  symRate := 3
  fsHz := 12
  amp := 0x3F800000
  pause := 2
  maxBits := 4
  carrier := [0x00000000, 0x3F7C1C5C, 0x3EAF1D44, 0xBF5DB3D7]

/-- TOY2 of 95_test_vectors.md section 0: a tie in SPS, an amplitude of one half. -/
def toy2 : Config where
  fcHz := 1
  symRate := 2
  fsHz := 7
  amp := 0x3F000000
  pause := 1
  maxBits := 2
  carrier := [0x00000000, 0x3EDDB3D7, 0x3EDDB3D7, 0x00000000]

/-- DEGEN of 95_test_vectors.md section 0: `SPS = 0` (R75). -/
def degen : Config where
  fcHz := 1
  symRate := 2
  fsHz := 1
  amp := 0x3F800000
  pause := 2
  maxBits := 4
  carrier := []

end Sys2Proof.Machine
end

