-- ==== Sys2Proof/Machine/SymMem.lean ====
section
/-! DEFINITION. The symbol memory as data (R16, R38): a list of (index, character code) pairs in one canonical form,
indexes strictly rising. A cell the list does not name holds no value: its contents are unspecified (R34) and no rule
reads them (R36(c)) (log 5). -/

namespace Sys2Proof.Machine

/-- The contents of a memory: the cells that have been written, each with its value. -/
abbrev Memory := List Host.Cell

/-- `MemRead(SYM, i, 1)`; no value where nothing has been written (log 5). -/
def Memory.read : Memory → Nat → Option Byte
  | [], _ => none
  | (a, b) :: rest, i => if a = i then some b else Memory.read rest i

/-- `MemWrite(SYM, i, 1, c)`, keeping the indexes strictly rising. -/
def Memory.write : Memory → Nat → Byte → Memory
  | [], i, c => [(i, c)]
  | (a, b) :: rest, i, c =>
    if i < a then (i, c) :: (a, b) :: rest
    else if i = a then (i, c) :: rest
    else (a, b) :: Memory.write rest i c

/-- Every index of the list is greater than `lo`, and they rise strictly. -/
def Memory.risesAbove : Nat → Memory → Bool
  | _, [] => true
  | lo, (a, _) :: rest => decide (lo < a) && Memory.risesAbove a rest

/-- The canonical form: indexes strictly rising. -/
def Memory.wf : Memory → Bool
  | [] => true
  | (a, _) :: rest => Memory.risesAbove a rest

/-- Every listed cell exists: its index is below `bound` (R38). -/
def Memory.within (m : Memory) (bound : Nat) : Bool :=
  m.all (fun e => decide (e.1 < bound))

end Sys2Proof.Machine
end

