-- ==== Sys2Proof/Machine/State.lean ====
section
/-! DEFINITION. The state of one block (10_state.md), plain data; the fields a step can show the outside world and those in
which the outside world's part is written down; the reasons a step can stop; and the state after reset (R34). -/

namespace Sys2Proof.Machine

/-- The outcome codes that `ERR` can hold (R21, R129); codes 5, 6 and 7 are never produced. -/
inductive ErrCode where
  | none
  | malformedBitSequence
  | degenerateSymbolParameters
  | illegalCommand
  | symbolOverflow
  deriving DecidableEq, Repr

/-- The segment of a unit the sequencer is in (R27). -/
inductive Segment where
  | symbols
  | pause
  deriving DecidableEq, Repr

/-- The hidden nested counters of a run (R27, R124). Not observable, and meaningless outside a run (U14, log 12). -/
structure Counters where
  /-- Repeat index. -/
  r : Nat
  /-- Segment. -/
  seg : Segment
  /-- Bit index. -/
  i : Nat
  /-- Symbol timer, also the NCO's phase index (R76). -/
  k : Nat
  /-- Pause sample index. -/
  p : Nat
  deriving DecidableEq, Repr

/-- One transfer on the output stream: a sample and the side-band marker `out_last` (R35, R43). -/
structure Transfer where
  data : Word
  last : Bool
  deriving DecidableEq, Repr

/-- What the agents outside the block do at one step (R13, R42, R144; log 7). -/
inductive Outside where
  /-- The consumer accepts a sample if one is offered. -/
  | accept
  /-- The consumer does not accept (backpressure, R42). -/
  | stall
  /-- The host asserts reset (R144). -/
  | reset
  deriving DecidableEq, Repr

/-- The block (R15 to R29), its configuration, and the model's own record of the outside world (INVENTORY.md). -/
structure State where
  /-- The configuration: a parameter of the step relation, which no step writes (R6, R29(a); log 1). -/
  cfg : Config
  /-- `SYM`, the symbol memory (R16). -/
  sym : Memory
  /-- `LEN` (R17). -/
  len : Word
  /-- `OVF` (R18). -/
  ovf : Bool
  /-- `BUSY` (R19). -/
  busy : Bool
  /-- `DONE` (R20). -/
  done : Bool
  /-- `ERR` (R21). -/
  err : ErrCode
  /-- `ERRIDX` (R22). -/
  errIdx : Word
  /-- `ERRCH` (R22). -/
  errCh : Byte
  /-- `CFGERR` (R23). -/
  cfgErr : Bool
  /-- `RPT` (R24). -/
  rpt : Word
  /-- `N`, the sample counter (R25). -/
  n : Word
  /-- `TOTAL` (R26). -/
  total : Word
  /-- The hidden counters (R27). -/
  ctr : Counters
  /-- `OUTBUF`, the bytes emitted since the last accepted `ENC` (R28). -/
  outbuf : List Byte
  /-- Model's own: every transfer of the output stream so far, oldest first (R41, R43; log 13). -/
  stream : List Transfer
  /-- Model's own: the command words the host presents, the head now on the command port (R35, R119; log 6). -/
  cmdQueue : List Word
  /-- Model's own: what the outside world does at each of the coming steps (log 7). -/
  outside : List Outside
  /-- Model's own: whether the consumer accepts once `outside` is used up (R42, R153; log 7). -/
  outReady : Bool
  deriving DecidableEq, Repr

/-- Why a step stops with a fault. The block's own four faults (R129) are NOT here: they are recorded in `ERR` and the
block goes on (R135). These stops are for states that no run reaches, where no rule gives a next state (log 11). -/
inductive Fault where
  /-- Raised by the validation scan of `ENC` and by a sample emission that would read a cell of `SYM` nothing has
  written. Safe: the spec gives the cell no value (R34), and no run gets there (R36(c)). -/
  | symbolCellUnwritten
  /-- Raised by a sample emission that meets a malformed character, which has no line bit (R72). Safe: the scan of `ENC`
  has covered the string (R121). -/
  | noLineBit
  /-- Raised by a sample emission that would read past the carrier table (R39). Safe: the table has `SPS` entries (R10(e)). -/
  | carrierIndexOutOfRange
  /-- Raised by a sample emission at a position of a buffer whose unit has no sample (R107). Safe: then `TOTAL = 0`. -/
  | positionOutsideBuffer
  /-- Raised by a step with `BUSY = 1` and `N > TOTAL`, where neither EMIT nor COMPLETE is enabled (R121, R122).
  Safe: `N <= TOTAL` during a run (R36(d)). -/
  | counterPastTotal
  deriving DecidableEq, Repr

/-- Why a step is refused. -/
inductive Refusal where
  /-- Raised by an arm of `exec` for a command with no meaning yet. Safe. No arm raises it. -/
  | notModelled (mnemonic : String)
  /-- Raised by every step and every command when the configuration is not well-formed: R10 has the model give it no
  meaning. Safe. -/
  | illFormedConfiguration
  /-- Raised by `ENC` when `TOTAL` would not fit 32 bits: R113 has the model refuse rather than choose a wrap (U12).
  Safe: unreachable, since `LEN <= MAXBITS` (R10(d), R36(a)). -/
  | counterOverflow
  deriving DecidableEq, Repr

/-- The reset values of the hidden counters (R34). -/
def Counters.atReset : Counters :=
  { r := 0, seg := .symbols, i := 0, k := 0, p := 0 }

/-- The block right after reset (R34), built as DSR-DEFAULT with the example value of MAXBITS (log 2); nothing sent, no
word presented, the consumer accepting (log 6, log 7, log 13). -/
def State.reset : State where
  cfg := dsrDefault
  sym := []
  len := 0
  ovf := false
  busy := false
  done := false
  err := .none
  errIdx := 0
  errCh := 0
  cfgErr := sps dsrDefault == 0
  rpt := 0
  n := 0
  total := 0
  ctr := Counters.atReset
  outbuf := []
  stream := []
  cmdQueue := []
  outside := []
  outReady := true

end Sys2Proof.Machine
end

