-- ==== Sys2Proof/Machine/Flags.lean ====
section
/-! DEFINITION. The outcome codes as bits (R21, R129) and the fourteen read-only words of the status port (R30 to R32).
Reading a status word is a function of the state, not a step (log 16). -/

namespace Sys2Proof.Machine

/-- The 3-bit code of an outcome (R21, R129). -/
def ErrCode.code : ErrCode → BitVec 3
  | .none => 0
  | .malformedBitSequence => 1
  | .degenerateSymbolParameters => 2
  | .illegalCommand => 3
  | .symbolOverflow => 4

/-- `SW0`, `STATUS`: from bit 31 down, 16 zero bits, `ERRCH`, a zero bit, `ERR`, `CFGERR`, `OVF`, `DONE`, `BUSY` (R30). -/
def statusSW0 (s : State) : Word :=
  0#16 ++ s.errCh ++ 0#1 ++ s.err.code ++ BitVec.ofBool s.cfgErr ++ BitVec.ofBool s.ovf ++ BitVec.ofBool s.done ++
    BitVec.ofBool s.busy

/-- `SW13`, the identification word (R32). -/
def identification : Word :=
  0x41534B01

/-- `SW0 .. SW13` in order (R30, R31, R32). -/
def statusWords (s : State) : Vector Word 14 :=
  #v[statusSW0 s, s.len, s.errIdx, s.rpt, s.total, s.n,
     BitVec.ofNat 32 (sps s.cfg), BitVec.ofNat 32 s.cfg.pause, s.cfg.amp, BitVec.ofNat 32 s.cfg.fcHz,
     BitVec.ofNat 32 s.cfg.fsHz, BitVec.ofNat 32 s.cfg.symRate, BitVec.ofNat 32 s.cfg.maxBits, identification]

/-- What a read of status word `k` returns in a state (R30). -/
def statusWord (s : State) (k : Fin 14) : Word :=
  (statusWords s).get k

end Sys2Proof.Machine
end

