-- ==== Sys2Proof/Machine/BitMapper.lean ====
section
/-! DEFINITION. The bit mapper (40_bitmap.md): valid characters (R65, R66), application bits (R67), the inverted line code
(R68, R69) and the validation scan (R71). -/

namespace Sys2Proof.Machine

/-- `Valid(c)` (R66). -/
def valid (c : Byte) : Bool :=
  decide (c = 0x30#8) || decide (c = 0x31#8)

/-- `AppBit(c)` (R67), not defined for a malformed character. -/
def appBit (c : Byte) : Option Bool :=
  if valid c then some (c.getLsbD 0) else none

/-- `LineBit(c)` (R68), the inverse of the application bit, not defined for a malformed character (R72). -/
def lineBit (c : Byte) : Option Bool :=
  (appBit c).map (fun b => !b)

/-- `Invert(bs)` (R69): each character with its lowest bit inverted, in sequence order. -/
def invert (bs : List Byte) : List Byte :=
  bs.map (fun c => c ^^^ 1#8)

/-- What the validation scan finds (R71). -/
inductive ScanResult where
  /-- Every character is valid: `NONE`. -/
  | clean
  /-- The least index of a malformed character, and its code. -/
  | bad (j : Nat) (c : Byte)
  /-- Before any malformed character, a cell with no value was to be read; no run gets there (R36(c)). -/
  | unwritten (j : Nat)
  deriving DecidableEq, Repr

/-- The scan of the `count` cells from index `j` on, lowest first, stopping at the first malformed one (R71, R125). -/
def scanFrom (m : Memory) : Nat → Nat → ScanResult
  | _, 0 => .clean
  | j, count + 1 =>
    match m.read j with
    | none => .unwritten j
    | some c => if valid c then scanFrom m (j + 1) count else .bad j c

/-- `FirstBad(SYM, LEN)` (R71). -/
def firstBad (m : Memory) (len : Nat) : ScanResult :=
  scanFrom m 0 len

end Sys2Proof.Machine
end

