-- ==== Sys2Proof/Machine/Formatter.lean ====
section
/-! DEFINITION. The formatter (43_formatter.md): symbols, waveform, unit, frame, the repeat-count policy, the sample at a
position of the buffer, the serialiser and the pure function `Encode` the block computes. -/

namespace Sys2Proof.Machine

/-- `zeros(n)` (R14): `n` samples of `+0.0` (R90). -/
def zeros (n : Nat) : List Word :=
  List.replicate n silence

/-- `Symbol(b)` (R97): the carrier table, or `SPS` zero samples. -/
def symbol (c : Config) (b : Bool) : List Word :=
  if b then c.carrier else zeros (sps c)

/-- `Modulate(ls)` (R98): the symbols of the line bits, in sequence order. -/
def modulate (c : Config) (ls : List Bool) : List Word :=
  ls.flatMap (symbol c)

/-- `Unit(w, pause)` (R101): the pause is part of every unit. -/
def unitOf (w : List Word) (pause : Nat) : List Word :=
  w ++ zeros pause

/-- `Frame(w, pause, repeats)` (R102). -/
def frame (w : List Word) (pause repeats : Nat) : List Word :=
  (List.replicate repeats (unitOf w pause)).flatten

/-- `Repeats(A, S)` (R104). -/
def repeats (a s : Bool) : Nat :=
  if a && s then 20 else 4

/-- `LE(v)` (R108): least significant byte first (R44). -/
def le (v : Word) : List Byte :=
  [v.extractLsb' 0 8, v.extractLsb' 8 8, v.extractLsb' 16 8, v.extractLsb' 24 8]

/-- `Serialise(xs)` (R108). -/
def serialise (xs : List Word) : List Byte :=
  xs.flatMap le

/-- `Encode(bs, A, S)` (R110), the five steps in order; no value when a character of `bs` is malformed (R72). R110 defines
it for a non-degenerate configuration only; that it has a value when `SPS = 0` too (empty symbols, the pauses alone) is the
model's choice (log 21), on which no step depends, since `ENC` then faults (R131). -/
def encodeBuffer (c : Config) (bs : List Byte) (a s : Bool) : Option (List Byte) :=
  ((invert bs).mapM appBit).map (fun ls => serialise (frame (modulate c ls) c.pause (repeats a s)))

/-- `WLEN = LEN * SPS` (R100). -/
def waveLen (s : State) : Nat :=
  s.len.toNat * sps s.cfg

/-- `UNIT = WLEN + PAUSE` (R100). -/
def unitLen (s : State) : Nat :=
  waveLen s + s.cfg.pause

/-- `TOTAL` for a repeat count, as an exact natural number (R106). -/
def bufferLen (s : State) (rpt : Nat) : Nat :=
  rpt * unitLen s

/-- The stored bit string `SYM[0 .. LEN-1]`, first character pushed first (R15, R73); no value when a cell has none. -/
def storedString (s : State) : Option (List Byte) :=
  (List.range s.len.toNat).mapM (fun i => s.sym.read i)

/-- The buffer of the current run as a whole, for the latched repeat count (R107, R110); no value unless every character
of the stored string is valid. -/
def currentBuffer (s : State) : Option (List Byte) :=
  ((storedString s).bind (fun bs => bs.mapM lineBit)).map
    (fun ls => serialise (frame (modulate s.cfg ls) s.cfg.pause s.rpt.toNat))

/-- `LINE[i]`, the line bit of the character in cell `i` (R73). -/
def lineAt (s : State) (i : Nat) : Except Fault Bool :=
  match s.sym.read i with
  | none => .error .symbolCellUnwritten
  | some c =>
    match lineBit c with
    | none => .error .noLineBit
    | some b => .ok b

/-- `Key(LINE[i], k)`: sample `k` of the symbol of character `i` (R89, R107). -/
def symbolSample (s : State) (i k : Nat) : Except Fault Word :=
  match lineAt s i with
  | .error f => .error f
  | .ok b =>
    match key s.cfg b k with
    | none => .error .carrierIndexOutOfRange
    | some v => .ok v

/-- The sample at offset `u` of a unit (R107): of a symbol in the waveform, silence in the pause. -/
def sampleInUnit (s : State) (u : Nat) : Except Fault Word :=
  if u < waveLen s then symbolSample s (u / sps s.cfg) (u % sps s.cfg)
  else .ok silence

/-- `SampleAt(n)` (R107). -/
def sampleAt (s : State) (n : Nat) : Except Fault Word :=
  if unitLen s = 0 then .error .positionOutsideBuffer
  else sampleInUnit s (n % unitLen s)

end Sys2Proof.Machine
end

