-- ==== Sys2Proof/Machine/Ops.lean ====
section
/-! DEFINITION. The named operations every step is made of: accepting a command word (R119), taking a fault (R135) and
recording success (R21), appending a character, starting a run, the nested counters (R124), emitting a sample (R121),
completing (R122) and reset (R144). -/

namespace Sys2Proof.Machine

/-- What a step answers. -/
abbrev StepOutcome := Host.Outcome State Fault Refusal

/-- Fault entry, `raise F(idx, ch)` (R135): the outcome record is written and nothing else; control goes nowhere, and there
is no return (R137). -/
def State.raise (s : State) (f : ErrCode) (idx : Word) (ch : Byte) : State :=
  { s with err := f, errIdx := idx, errCh := ch }

/-- The outcome record of a command that succeeds (R21, R22). -/
def State.succeed (s : State) : State :=
  { s with err := .none, errIdx := 0, errCh := 0 }

/-- `LEN <- 0; OVF <- 0` (R114). -/
def State.emptyString (s : State) : State :=
  { s with len := 0, ovf := false }

/-- `SYM[LEN] <- ch; LEN <- LEN + 1` (R115). -/
def State.appendChar (s : State) (ch : Byte) : State :=
  { s with sym := s.sym.write s.len.toNat ch, len := s.len + 1 }

/-- `OVF <- 1` (R132). -/
def State.markOverflow (s : State) : State :=
  { s with ovf := true }

/-- `DONE <- 0; OUTBUF <- []`, what every accepted `ENC` does first (R116). -/
def State.freshBuffer (s : State) : State :=
  { s with done := false, outbuf := [] }

/-- The hidden counters at the start of a run (R124). -/
def Counters.start (len : Nat) : Counters :=
  { r := 0, seg := if 0 < len then .symbols else .pause, i := 0, k := 0, p := 0 }

/-- `RPT`, `TOTAL`, `N <- 0`, `BUSY <- 1` (R116), and the hidden counters rewritten (R124). -/
def State.startRun (s : State) (rpt total : Nat) : State :=
  { s with
    rpt := BitVec.ofNat 32 rpt, total := BitVec.ofNat 32 total, n := 0, busy := true,
    ctr := Counters.start s.len.toNat }

/-- The nested counters' transition on an emission (R124). -/
def Counters.advance (c : Config) (len : Nat) (x : Counters) : Counters :=
  match x.seg with
  | .symbols =>
    if x.k + 1 < sps c then { x with k := x.k + 1 }
    else if x.i + 1 < len then { x with k := 0, i := x.i + 1 }
    else if 0 < c.pause then { x with k := 0, i := 0, seg := .pause, p := 0 }
    else { x with k := 0, i := 0, r := x.r + 1 }
  | .pause =>
    if x.p + 1 < c.pause then { x with p := x.p + 1 }
    else { x with p := 0, r := x.r + 1, seg := if 0 < len then .symbols else .pause }

/-- The sample the nested counters select (R124), the same as `SampleAt(N)` during a run. -/
def counterSample (s : State) : Except Fault Word :=
  match s.ctr.seg with
  | .symbols => symbolSample s s.ctr.i s.ctr.k
  | .pause => .ok silence

/-- `out_last` of the next transfer: `N = TOTAL - 1` (R43, R121). -/
def outLast (s : State) : Bool :=
  decide (s.n.toNat + 1 = s.total.toNat)

/-- The effect of EMIT with sample `v` (R121): four bytes appended, one transfer, `N <- N + 1`. -/
def State.emitted (s : State) (v : Word) : State :=
  { s with
    outbuf := s.outbuf ++ le v, stream := s.stream ++ [{ data := v, last := outLast s }], n := s.n + 1,
    ctr := s.ctr.advance s.cfg s.len.toNat }

/-- The effect of COMPLETE (R122). -/
def State.completed (s : State) : State :=
  { s with busy := false, done := true }

/-- The effect of RESET (R144) on every piece of the block's state; the contents of `SYM` become unspecified, so no cell
holds a value (log 5). What the outside world holds is not the block's (log 6, log 7, log 13). -/
def State.afterReset (s : State) : State :=
  { s with
    sym := [], len := 0, ovf := false, busy := false, done := false, err := .none, errIdx := 0, errCh := 0,
    cfgErr := sps s.cfg == 0, rpt := 0, n := 0, total := 0, ctr := Counters.atReset, outbuf := [] }

/-- The outside world's move of this step is used up (log 7). -/
def State.nextMove (s : State) : State :=
  { s with outside := s.outside.tail }

/-- The word on the command port has been accepted, and the words after it remain presented (log 6). -/
def State.takeWord (s : State) : State :=
  { s with cmdQueue := s.cmdQueue.tail }

/-- What the outside world does at this step: the next move of the script, or the consumer's standing level (log 7). -/
def State.move (s : State) : Outside :=
  match s.outside with
  | m :: _ => m
  | [] => if s.outReady then .accept else .stall

/-- The acceptance of a command (R119): no meaning in an ill-formed configuration (R10); while `BUSY = 1` the word waits
and nothing changes (log 9); otherwise all of the command's effects, in this one step. -/
def accept (s : State) (effect : State → StepOutcome) : StepOutcome :=
  if s.cfg.wellFormed = false then .refused .illFormedConfiguration
  else if s.busy then .next s
  else effect s

end Sys2Proof.Machine
end

