-- ==== Sys2Proof/Machine/Commands.lean ====
section
/-! DEFINITION. The meanings of the three commands (44_commands.md R114 to R116). -/

namespace Sys2Proof.Machine

/-- `CLRB` once accepted (R114). -/
def clrbEffect (s : State) : StepOutcome :=
  .next s.emptyString.succeed

/-- `PUSHC ch` once accepted (R115, R132): the character is stored unchecked, or dropped when the memory is full. -/
def pushcEffect (ch : Byte) (s : State) : StepOutcome :=
  if s.len.toNat < s.cfg.maxBits then .next (s.appendChar ch).succeed
  else .next (s.markOverflow.raise .symbolOverflow (BitVec.ofNat 32 s.cfg.maxBits) ch)

/-- `ENC` once every check has passed (R116); a `TOTAL` beyond 32 bits is refused (R113). -/
def beginRun (rpt : Nat) (s : State) : StepOutcome :=
  if bufferLen s rpt < 2 ^ 32 then .next (s.succeed.startRun rpt (bufferLen s rpt))
  else .refused .counterOverflow

/-- The checks of `ENC` in their fixed order, on a state whose buffer has been emptied (R116, R117, R134). -/
def encChecked (a soft : Bool) (s : State) : StepOutcome :=
  if s.cfgErr then .next (s.raise .degenerateSymbolParameters 0 0)
  else if s.ovf then .next (s.raise .symbolOverflow 0 0)
  else
    match firstBad s.sym s.len.toNat with
    | .bad j c => .next (s.raise .malformedBitSequence (BitVec.ofNat 32 j) c)
    | .unwritten _ => .fault .symbolCellUnwritten
    | .clean => beginRun (repeats a soft) s

/-- `ENC A, S` once accepted (R116): `DONE` and `OUTBUF` are cleared whatever the checks say. -/
def encEffect (a soft : Bool) (s : State) : StepOutcome :=
  encChecked a soft s.freshBuffer

/-- `CLRB` (R114). -/
def execClrb (s : State) : StepOutcome :=
  accept s clrbEffect

/-- `PUSHC ch` (R115). -/
def execPushc (ch : Byte) (s : State) : StepOutcome :=
  accept s (pushcEffect ch)

/-- `ENC A, S` (R116). -/
def execEnc (a soft : Bool) (s : State) : StepOutcome :=
  accept s (encEffect a soft)

/-- An illegal command word, accepted (R118, R133). -/
def execIllegal (s : State) : StepOutcome :=
  accept s (fun t => .next (t.raise .illegalCommand 0 0))

end Sys2Proof.Machine
end

