-- ==== Sys2Proof/Machine/Dispatch.lean ====
section
/-! DEFINITION. One arm per command: each calls its own meaning in Machine/Commands.lean. -/

namespace Sys2Proof.Machine

def exec (i : Instr) (s : State) : Host.Outcome State Fault Refusal :=
  match i with
  | .clrb => Sys2Proof.Machine.execClrb s
  | .pushc ch => Sys2Proof.Machine.execPushc ch s
  | .enc a soft => Sys2Proof.Machine.execEnc a soft s

end Sys2Proof.Machine
end

