-- ==== Sys2Proof/Machine/Sequencer.lean ====
section
/-! DEFINITION. The steps the sequencer takes (44_commands.md section 3): EMIT, COMPLETE, the acceptance of the word on the
command port, the waits, and reset before all of them. -/

namespace Sys2Proof.Machine

/-- EMIT (R121). -/
def emitStep (s : State) : StepOutcome :=
  match sampleAt s s.n.toNat with
  | .ok v => .next (s.nextMove.emitted v)
  | .error f => .fault f

/-- A step during a run (R119): an emission when the consumer accepts (R121), nothing when it does not (R42), completion
when every sample has been emitted, whatever the consumer does (R122). -/
def runStep (s : State) : StepOutcome :=
  if s.n.toNat < s.total.toNat then
    (if s.move = .accept then emitStep s else .next s.nextMove)
  else if s.n.toNat = s.total.toNat then .next s.nextMove.completed
  else .fault .counterPastTotal

/-- A step of an idle block: the word on the command port is accepted, a command or an illegal word (R59, R118), and is
consumed; with no word presented the block waits (R143). -/
def idleStep (s : State) : StepOutcome :=
  match s.cmdQueue with
  | [] => .next s.nextMove
  | w :: _ =>
    match decode w with
    | .command i => exec i s.nextMove.takeWord
    | .illegal _ => execIllegal s.nextMove.takeWord

/-- One step of the one total order (R12, R50): reset if the host asserts it (R144), else a step of the run or of the idle
block (R120); an ill-formed configuration has no step (R10). -/
def stepOf (s : State) : StepOutcome :=
  if s.cfg.wellFormed = false then .refused .illFormedConfiguration
  else if s.move = .reset then .next s.nextMove.afterReset
  else if s.busy then runStep s
  else idleStep s

/-- `s` with the word `w` presented to an idle block that no reset interrupts (log 8). -/
def State.withWord (s : State) (w : Word) : State :=
  { s with cmdQueue := w :: s.cmdQueue, outside := [], busy := false }

end Sys2Proof.Machine
end

