-- ==== Sys2Proof/Machine/Step.lean ====
section
/-! DEFINITION. The step of the machine, and how the host places a command word where the next step accepts it. -/

namespace Sys2Proof.Machine

/-- One step (Machine/Sequencer.lean). -/
def step (s : State) : Host.Outcome State Fault Refusal :=
  stepOf s

/-- The command word presented on the command port of the idle block (log 8). -/
def State.withFetchWord (s : State) (nbits w : Nat) : State :=
  s.withWord (tableWord nbits w)

end Sys2Proof.Machine
end

