-- ==== Sys2Proof/Machine/Pseudo.lean ====
section
/-! DEFINITION. The pseudo-commands and their expansions (R64), and the assembler's text of a command (R63). `WAIT` is no
command word and expands to nothing. -/

namespace Sys2Proof.Machine

/-- `LOADS` (R64): empty the string, then push its characters, first character first. -/
def loads (cs : List Byte) : List Instr :=
  .clrb :: cs.map .pushc

/-- `RESEND` (R64): encode again what is stored. -/
def resend (a s : Bool) : List Instr :=
  [.enc a s]

/-- `SEND` (R64): load the string and encode it. -/
def send (cs : List Byte) (a s : Bool) : List Instr :=
  loads cs ++ resend a s

/-- The command words of a sequence of commands, in issue order (R63). -/
def wordsOf (is : List Instr) : List Word :=
  is.map encode

/-- An operand bit as the assembler writes it (R63). -/
def bitText (b : Bool) : String :=
  if b then "1" else "0"

/-- The assembler's line for a command (R63), the character as its number. -/
def assemblerText : Instr → String
  | .clrb => "CLRB"
  | .pushc ch => "PUSHC " ++ toString ch.toNat
  | .enc a s => "ENC A=" ++ bitText a ++ ", S=" ++ bitText s

end Sys2Proof.Machine
end

