-- ==== Sys2Proof/Safety.lean ====
section
/-! DEFINITION. What the claims call a good state: the invariants of R36 and R124, and the prefix property of R123. -/

namespace Sys2Proof.Safety

open Sys2Proof.Machine

/-- A command word is accepted (R119): the configuration has a meaning (R10) and the block is idle. -/
def Ready (s : State) : Prop :=
  s.cfg.wellFormed = true ∧ s.busy = false

/-- The next step belongs to the run: no reset, `BUSY = 1`, in a configuration that has a meaning. -/
def InRun (s : State) : Prop :=
  s.cfg.wellFormed = true ∧ s.busy = true ∧ s.move ≠ .reset

/-- The word `w` is on the command port of an idle block that the coming step does not reset (R119, R144). -/
def Presented (s : State) (w : Word) : Prop :=
  Ready s ∧ s.move ≠ .reset ∧ s.cmdQueue.head? = some w

/-- How many of the next `m` moves of the outside world are acceptances by the consumer (R42; log 7). -/
def acceptsWithin (s : State) (m : Nat) : Nat :=
  (s.outside.take m).count .accept + (if s.outReady then m - s.outside.length else 0)

/-- The consumer accepts at least `n` samples, after whatever stalls, and no reset comes: what the weak fairness of R42 and
R153 gives a run of `n` samples (log 7). -/
def EventuallyAccepts (s : State) (n : Nat) : Prop :=
  Outside.reset ∉ s.outside ∧ (s.outReady = true ∨ n ≤ s.outside.count .accept)

/-- Every cell below `j` holds a valid character (R66, R71). -/
def AllValidBelow (m : Memory) (j : Nat) : Prop :=
  ∀ i < j, ∃ c, m.read i = some c ∧ valid c = true

/-- R36(d): what `BUSY = 1` implies. -/
structure RunOk (s : State) : Prop where
  notDone : s.done = false
  noError : s.err = .none
  notDegenerate : s.cfgErr = false
  notOverflowed : s.ovf = false
  counterLe : s.n.toNat ≤ s.total.toNat
  totalIs : s.total.toNat = bufferLen s s.rpt.toNat
  repeatCount : s.rpt = 4 ∨ s.rpt = 20
  charsValid : AllValidBelow s.sym s.len.toNat

/-- R36, clause by clause ((g) holds by the type of `err`), with R23 for `CFGERR`, R24 for the values of `RPT`, a
well-formed configuration (R10) and the canonical form of the symbol memory. -/
structure Inv (s : State) : Prop where
  config : s.cfg.wellFormed = true
  memory : s.sym.wf = true
  cellsExist : s.sym.within s.cfg.maxBits = true
  lenLe : s.len.toNat ≤ s.cfg.maxBits
  overflow : s.ovf = true → s.len.toNat = s.cfg.maxBits
  written : ∀ i < s.len.toNat, (s.sym.read i).isSome = true
  cfgErrIs : s.cfgErr = (sps s.cfg == 0)
  running : s.busy = true → RunOk s
  bytes : s.busy = true ∨ s.done = true → s.outbuf.length = 4 * s.n.toNat
  finished : s.done = true → s.busy = false ∧ s.n = s.total
  repeatValues : s.rpt = 0 ∨ s.rpt = 4 ∨ s.rpt = 20

/-- The offset in a unit that the hidden counters stand for (R124). -/
def counterOffset (s : State) : Nat :=
  match s.ctr.seg with
  | .symbols => s.ctr.i * sps s.cfg + s.ctr.k
  | .pause => waveLen s + s.ctr.p

/-- The ranges of the hidden counters (R27); in the pause the bit index and the symbol timer stand at 0, where R124 has set
them for the next unit. -/
def counterRanges (s : State) : Prop :=
  match s.ctr.seg with
  | .symbols => s.ctr.i < s.len.toNat ∧ s.ctr.k < sps s.cfg
  | .pause => s.ctr.p < s.cfg.pause ∧ s.ctr.i = 0 ∧ s.ctr.k = 0

/-- The invariant of R124 during a run of at least one sample: the hidden counters decompose `N`, and `N = TOTAL`
exactly when `r = RPT`. -/
def CountersOk (s : State) : Prop :=
  s.busy = true → 0 < s.total.toNat →
    (s.n.toNat < s.total.toNat →
      s.ctr.r < s.rpt.toNat ∧ counterRanges s ∧ s.n.toNat = s.ctr.r * unitLen s + counterOffset s) ∧
    (s.n.toNat = s.total.toNat ↔ s.ctr.r = s.rpt.toNat)

/-- The prefix property of R123: during a run `OUTBUF` is the prefix of length `4 * N` of the run's whole buffer. -/
def PrefixOk (s : State) : Prop :=
  s.busy = true → ∃ buf, currentBuffer s = some buf ∧ s.outbuf = buf.take (4 * s.n.toNat)

end Sys2Proof.Safety
end

