-- ==== Sys2Proof/Certificates/Slice0/Obligations.lean ====
section
/-! DEFINITION. The statements for the provers, from the numbered rules of spec/. Each docstring names the rule, and the
log entry where a clause is the model's own. -/

open Sys2Proof Sys2Proof.Machine Sys2Proof.Safety

/-! Encoding (30_encoding.md). -/

/-- R61: the three encoders, and that decoder and encoder agree both ways with every operand at every value: a command's
word decodes to it, and a word that decodes to a command is that command's word, so no bit is dropped, no two commands share
a word and every other word is illegal. -/
def Obligations.DecodeInvertsEncode : Prop :=
  encode .clrb = 0x01000000#32 ∧ (∀ ch : Byte, encode (.pushc ch) = 0x02000000#32 + ch.setWidth 32) ∧
  (∀ a s : Bool, encode (.enc a s) = 0x03000000#32 + 256#32 * bitWord a + 512#32 * bitWord s) ∧
  (∀ i : Instr, i.wellFormed = true → decode (encode i) = .command i) ∧
  (∀ (w : Word) (i : Instr), decode w = .command i → w = encode i)

/-- R58, R59: a word is illegal exactly when its opcode is `0x00` or above `0x03`, or a reserved bit of its format is 1. -/
def Obligations.IllegalWordsExactly : Prop :=
  ∀ w : Word, (∃ why, decode w = .illegal why) ↔
    (opcodeField w = 0 ∨ 4 ≤ (opcodeField w).toNat ∨
      (opcodeField w = 1 ∧ w.extractLsb' 0 24 ≠ 0) ∨
      (opcodeField w = 2 ∧ w.extractLsb' 8 16 ≠ 0) ∨
      (opcodeField w = 3 ∧ (w.extractLsb' 10 14 ≠ 0 ∨ w.extractLsb' 0 8 ≠ 0)))

/-- R56: a word is the command of a row exactly when `(w AND mask) = match`; the three match sets are disjoint, and hold
1, 256 and 4 words, 261 in all. -/
def Obligations.LegalWordsByMatchAndMask : Prop :=
  (∀ w : Word,
    (decode w = .command .clrb ↔ w &&& 0xFFFFFFFF#32 = 0x01000000#32) ∧
    ((∃ ch, decode w = .command (.pushc ch)) ↔ w &&& 0xFFFFFF00#32 = 0x02000000#32) ∧
    ((∃ a s, decode w = .command (.enc a s)) ↔ w &&& 0xFFFFFCFF#32 = 0x03000000#32) ∧
    ¬(w &&& 0xFFFFFFFF#32 = 0x01000000#32 ∧ w &&& 0xFFFFFF00#32 = 0x02000000#32) ∧
    ¬(w &&& 0xFFFFFFFF#32 = 0x01000000#32 ∧ w &&& 0xFFFFFCFF#32 = 0x03000000#32) ∧
    ¬(w &&& 0xFFFFFF00#32 = 0x02000000#32 ∧ w &&& 0xFFFFFCFF#32 = 0x03000000#32)) ∧
  Set.ncard {w : Word | decode w = .command .clrb} = 1 ∧
  Set.ncard {w : Word | ∃ ch, decode w = .command (.pushc ch)} = 256 ∧
  Set.ncard {w : Word | ∃ a s, decode w = .command (.enc a s)} = 4 ∧
  Set.ncard {w : Word | ∃ i, decode w = .command i} = 261

/-- A few words written out bit by bit from the formats of R55 decode to the commands they stand for, and two illegal words to
ILLEGAL (R61); the reason the decoder names for an illegal word is the model's choice (log 19). -/
def Obligations.WordsOfTheFormatsDecode : Prop :=
  decode 0b00000001000000000000000000000000#32 = .command .clrb ∧
  decode 0b00000010000000000000000000110000#32 = .command (.pushc 0x30#8) ∧
  decode 0b00000010000000000000000011111111#32 = .command (.pushc 0xFF#8) ∧
  decode 0b00000011000000000000000100000000#32 = .command (.enc true false) ∧
  decode 0b00000011000000000000001000000000#32 = .command (.enc false true) ∧
  decode 0b00000011000000000000010000000000#32 = .illegal .reservedBitSet ∧
  decode 0b00000000000000000000000000000000#32 = .illegal .unknownOpcode

/-! The commands (44_commands.md). -/

/-- R114: `CLRB` in an idle block completes; it writes `LEN`, `OVF` and the outcome record and nothing else (every other
field, every cell of `SYM` and every byte of `OUTBUF` is as before). -/
def Obligations.ClrbEmptiesTheString : Prop :=
  decode 0x01000000#32 = .command .clrb ∧
  ∀ s : State, Ready s →
    exec .clrb s = .next { s with len := 0, ovf := false, err := .none, errIdx := 0, errCh := 0 }

/-- R115: `PUSHC` in an idle block completes with every character code: below `MAXBITS` it stores the character
unchecked at index `LEN`, with every other cell reading as before, and `LEN` goes up by one exactly; at `MAXBITS` it drops
the character with the fault SymbolOverflow. Every other field is as before. -/
def Obligations.PushcStoresOrOverflows : Prop :=
  (∀ ch : Byte, decode (0x02000000#32 + ch.setWidth 32) = .command (.pushc ch)) ∧
  ∀ (s : State) (ch : Byte), Ready s →
    (s.len.toNat < s.cfg.maxBits → ∃ m : Memory,
      exec (.pushc ch) s = .next { s with sym := m, len := s.len + 1, err := .none, errIdx := 0, errCh := 0 } ∧
      (s.len + 1).toNat = s.len.toNat + 1 ∧ m.read s.len.toNat = some ch ∧
      (∀ a, a ≠ s.len.toNat → m.read a = s.sym.read a)) ∧
    (s.cfg.maxBits ≤ s.len.toNat →
      exec (.pushc ch) s = .next
        { s with ovf := true, err := .symbolOverflow, errIdx := BitVec.ofNat 32 s.cfg.maxBits, errCh := ch })

/-- R116, its checks in the order of R117 and R134: `ENC` in an idle block. `DONE` and `OUTBUF` are cleared whatever the outcome; then the degenerate
configuration, the overflow mark and the malformed character of least index are checked in this order and rejected with
their records; a string of valid characters starts the run. Every other field is as before. -/
def Obligations.EncChecksThenStartsTheRun : Prop :=
  (∀ a soft : Bool, decode (0x03000000#32 + 256#32 * bitWord a + 512#32 * bitWord soft) = .command (.enc a soft)) ∧
  ∀ (s : State) (a soft : Bool), Ready s →
    (s.cfgErr = true →
      exec (.enc a soft) s = .next
        { s with done := false, outbuf := [], err := .degenerateSymbolParameters, errIdx := 0, errCh := 0 }) ∧
    (s.cfgErr = false → s.ovf = true →
      exec (.enc a soft) s = .next
        { s with done := false, outbuf := [], err := .symbolOverflow, errIdx := 0, errCh := 0 }) ∧
    (s.cfgErr = false → s.ovf = false → ∀ (j : Nat) (c : Byte), j < s.len.toNat → s.sym.read j = some c →
      valid c = false → AllValidBelow s.sym j →
      exec (.enc a soft) s = .next
        { s with done := false, outbuf := [], err := .malformedBitSequence, errIdx := BitVec.ofNat 32 j, errCh := c }) ∧
    (s.cfgErr = false → s.ovf = false → AllValidBelow s.sym s.len.toNat → s.len.toNat ≤ s.cfg.maxBits →
      exec (.enc a soft) s = .next
        { s with
          done := false, outbuf := [], err := .none, errIdx := 0, errCh := 0,
          rpt := BitVec.ofNat 32 (if a && soft then 20 else 4),
          total := BitVec.ofNat 32 ((if a && soft then 20 else 4) * (s.len.toNat * sps s.cfg + s.cfg.pause)),
          n := 0, busy := true,
          ctr := { r := 0, seg := if 0 < s.len.toNat then .symbols else .pause, i := 0, k := 0, p := 0 } } ∧
      (if a && soft then 20 else 4) * (s.len.toNat * sps s.cfg + s.cfg.pause) < 2 ^ 32)

/-- The model's own stops (log 3, log 11), all of them. An ill-formed configuration, to which R10 has the model give no
meaning, refuses every command and every step. The others are in states no run reaches: `ENC` with a cell nothing has written
before any malformed one; `ENC` whose `TOTAL` would not fit 32 bits (R113); a run whose `N` has passed `TOTAL`; an emission of
a unit with no sample, from a cell nothing has written, or from a malformed character (R72). The stop at an index past the
carrier table (R39) is reached from no state at all. -/
def Obligations.StopsByName : Prop :=
  (∀ (s : State) (i : Instr), s.cfg.wellFormed = false →
    exec i s = .refused .illFormedConfiguration ∧ step s = .refused .illFormedConfiguration) ∧
  (∀ (s : State) (a soft : Bool) (j : Nat), Ready s → s.cfgErr = false → s.ovf = false → j < s.len.toNat →
    s.sym.read j = none → AllValidBelow s.sym j → exec (.enc a soft) s = .fault .symbolCellUnwritten) ∧
  (∀ (s : State) (a soft : Bool), Ready s → s.cfgErr = false → s.ovf = false → AllValidBelow s.sym s.len.toNat →
    2 ^ 32 ≤ bufferLen s (repeats a soft) → exec (.enc a soft) s = .refused .counterOverflow) ∧
  (∀ s : State, InRun s → s.total.toNat < s.n.toNat → step s = .fault .counterPastTotal) ∧
  (∀ s : State, InRun s → s.move = .accept → s.n.toNat < s.total.toNat →
    (unitLen s = 0 → step s = .fault .positionOutsideBuffer) ∧
    (s.n.toNat % unitLen s < waveLen s →
      (s.sym.read (s.n.toNat % unitLen s / sps s.cfg) = none → step s = .fault .symbolCellUnwritten) ∧
      (∀ c, s.sym.read (s.n.toNat % unitLen s / sps s.cfg) = some c → valid c = false →
        step s = .fault .noLineBit))) ∧
  (∀ s : State, step s ≠ .fault .carrierIndexOutOfRange)

/-- R119 (log 9 for what `exec` answers, log 6 for the words presented): a command given to a running block is not accepted: nothing changes. And no step
of a run takes a word off the command port: every word presented still waits after it. -/
def Obligations.WordsWaitDuringARun : Prop :=
  (∀ (s : State) (i : Instr), s.cfg.wellFormed = true → s.busy = true → exec i s = .next s) ∧
  (∀ s t : State, s.busy = true → step s = .next t → t.cmdQueue = s.cmdQueue)

/-- R135, R136: a faulting command leaves the bit string, the run registers, the counters and the stream as they were,
and the block idle; a faulting `ENC` has no bytes in `OUTBUF`; any other command leaves `OUTBUF` and `DONE` alone. -/
def Obligations.FaultsArePrecise : Prop :=
  ∀ (s t : State) (i : Instr), Ready s → exec i s = .next t → t.err ≠ .none →
    t.busy = false ∧ t.sym = s.sym ∧ t.len = s.len ∧ t.rpt = s.rpt ∧ t.total = s.total ∧ t.n = s.n ∧ t.ctr = s.ctr ∧
    t.stream = s.stream ∧ t.cfgErr = s.cfgErr ∧ t.cfg = s.cfg ∧
    ((∃ a soft, i = .enc a soft) → t.outbuf = [] ∧ t.done = false ∧ t.ovf = s.ovf) ∧
    ((¬∃ a soft, i = .enc a soft) → t.outbuf = s.outbuf ∧ t.done = s.done)

/-- R21, R33, R151: no command reads the outcome record and every accepted command overwrites it: whatever record an
earlier command left, the outcome is the same state. -/
def Obligations.OutcomeRecordIsOverwritten : Prop :=
  ∀ (s : State) (i : Instr) (f : ErrCode) (idx : Word) (ch : Byte), Ready s →
    exec i { s with err := f, errIdx := idx, errCh := ch } = exec i s

/-- R18, R152: `OVF` stays set under every step but reset and the acceptance of `CLRB`, and while it is set no step takes
an idle block into a run. -/
def Obligations.OverflowMarkIsSticky : Prop :=
  ∀ s t : State, s.ovf = true → step s = .next t →
    (t.ovf = true ∨ s.move = .reset ∨
      (s.busy = false ∧ ∃ w, s.cmdQueue.head? = some w ∧ decode w = .command .clrb)) ∧
    (s.busy = false → t.busy = false)

/-- R17, R155: only `CLRB`, `PUSHC` and reset change the stored string. -/
def Obligations.BitStringPersists : Prop :=
  ∀ s t : State, step s = .next t → (t.sym ≠ s.sym ∨ t.len ≠ s.len) →
    s.move = .reset ∨ (s.busy = false ∧ ∃ w, s.cmdQueue.head? = some w ∧
      (decode w = .command .clrb ∨ ∃ ch, decode w = .command (.pushc ch)))

/-! The steps (44_commands.md section 3, 70_reset_and_hazards.md). -/

/-- A step of an idle block runs the command that the word on its port decodes to: `step` is `exec` of it at the state
with that word taken off the port and the outside world's move used up (R12, R119; log 6 and log 7 for the port and the
move). -/
def Obligations.StepRunsTheDecodedCommand : Prop :=
  ∀ (s : State) (w : Word) (i : Instr), Presented s w → decode w = .command i → i.wellFormed = true →
    step s = exec i { s with cmdQueue := s.cmdQueue.tail, outside := s.outside.tail }

/-- R59, R118, R133: an illegal word on the port of an idle block is consumed; `ERR <- 3`, the detail is zero, and nothing
else of the block changes (log 6 and log 7 for the port and the move). The all-zero word is one. -/
def Obligations.IllegalWordIsConsumed : Prop :=
  (∃ why, decode 0x00000000#32 = .illegal why) ∧
  ∀ (s : State) (w : Word) (why : IllegalWord), Presented s w → decode w = .illegal why →
    step s = .next { s with
      cmdQueue := s.cmdQueue.tail, outside := s.outside.tail, err := .illegalCommand, errIdx := 0, errCh := 0 }

/-- R143 (log 10): an idle block with no word presented waits; a running block whose consumer does not accept waits
(R42). Both keep all state. -/
def Obligations.WaitsKeepAllState : Prop :=
  (∀ s : State, Ready s → s.move ≠ .reset → s.cmdQueue = [] → step s = .next { s with outside := s.outside.tail }) ∧
  (∀ s : State, InRun s → s.n.toNat < s.total.toNat → s.move = .stall →
    step s = .next { s with outside := s.outside.tail })

/-- R121: when the consumer accepts, an emission appends the four bytes of `SampleAt(N)`, least significant first, to
`OUTBUF` and one transfer to the stream, with `out_last` exactly when `N = TOTAL - 1`, and `N` goes up by one; the hidden
counters advance (R124) and nothing else changes (log 7 for the move, log 13 for the stream). -/
def Obligations.EmissionAppendsOneSample : Prop :=
  ∀ (s : State) (v : Word), InRun s → s.move = .accept → s.n.toNat < s.total.toNat → sampleAt s s.n.toNat = .ok v →
    step s = .next { s with
      outside := s.outside.tail,
      outbuf := s.outbuf ++ [v.extractLsb' 0 8, v.extractLsb' 8 8, v.extractLsb' 16 8, v.extractLsb' 24 8],
      stream := s.stream ++ [{ data := v, last := decide (s.n.toNat = s.total.toNat - 1) }],
      n := s.n + 1, ctr := s.ctr.advance s.cfg s.len.toNat } ∧
    (s.n + 1).toNat = s.n.toNat + 1

/-- R122: completion, whatever the consumer does, sets `DONE`, clears `BUSY` and changes nothing else (log 7 for the move). -/
def Obligations.CompletionStep : Prop :=
  ∀ s : State, InRun s → s.n.toNat = s.total.toNat →
    step s = .next { s with outside := s.outside.tail, busy := false, done := true }

/-- R144, R146, R147: reset in any state, also during a run: every field of the table of R34 but `SYM`, whose contents are
unspecified; the configuration and the samples already transferred stay (log 13). That the words presented stay on the port
is the model's choice (log 6): R144 says only that the reset step accepts none. -/
def Obligations.ResetStep : Prop :=
  ∀ s : State, s.cfg.wellFormed = true → s.move = .reset → ∃ t, step s = .next t ∧
    t.len = 0 ∧ t.ovf = false ∧ t.busy = false ∧ t.done = false ∧ t.err = .none ∧ t.errIdx = 0 ∧ t.errCh = 0 ∧
    t.cfgErr = (sps s.cfg == 0) ∧ t.rpt = 0 ∧ t.n = 0 ∧ t.total = 0 ∧ t.outbuf = [] ∧
    t.ctr = { r := 0, seg := .symbols, i := 0, k := 0, p := 0 } ∧
    t.cfg = s.cfg ∧ t.cmdQueue = s.cmdQueue ∧ t.stream = s.stream

/-- R34, R145: the state after reset in DSR-DEFAULT with MAXBITS 256 (log 2), and that it is idle and waits for a command word.
That the wait is a step which answers this same state is the model's choice (log 10), as are the values of the port and the
script after reset, on which it rests: no word presented (log 6), no move left (log 7). -/
def Obligations.StateAfterReset : Prop :=
  State.reset.len = 0 ∧ State.reset.ovf = false ∧ State.reset.busy = false ∧ State.reset.done = false ∧
  State.reset.err = .none ∧ State.reset.errIdx = 0 ∧ State.reset.errCh = 0 ∧ State.reset.cfgErr = false ∧
  State.reset.rpt = 0 ∧ State.reset.n = 0 ∧ State.reset.total = 0 ∧ State.reset.outbuf = [] ∧
  State.reset.ctr = { r := 0, seg := .symbols, i := 0, k := 0, p := 0 } ∧
  statusSW0 State.reset = 0 ∧ step State.reset = .next State.reset

/-- R120: the control transfers of the block. A run begins only by an `ENC` word with every check passed; it ends only by
reset or with every sample emitted; and during a run `N` stays or goes from `n` to `n + 1`. -/
def Obligations.ControlTransfers : Prop :=
  ∀ s t : State, step s = .next t →
    (s.busy = false → t.busy = true → ∃ w a soft, s.cmdQueue.head? = some w ∧ decode w = .command (.enc a soft) ∧
      s.cfgErr = false ∧ s.ovf = false ∧ AllValidBelow s.sym s.len.toNat ∧ t.n = 0 ∧ t.outbuf = []) ∧
    (s.busy = true → t.busy = false → s.move = .reset ∨ s.n.toNat = s.total.toNat) ∧
    (s.busy = true → t.busy = true →
      t.total = s.total ∧ t.rpt = s.rpt ∧
      (t.n = s.n ∨ (t.n.toNat = s.n.toNat + 1 ∧ t.n.toNat ≤ s.total.toNat)))

/-- R153: a consumer that has stopped accepting hangs the run: every number of steps leaves the state as it is
(that the wait is a step is log 10, that the consumer never accepts again is the level of log 7). -/
def Obligations.StoppedConsumerHangsTheRun : Prop :=
  ∀ (s : State) (m : Nat), s.cfg.wellFormed = true → s.busy = true → s.n.toNat < s.total.toNat →
    s.outside = [] → s.outReady = false → Host.Core.run Sys2Proof.core m s = .next s

/-! Invariants that every step keeps. -/

/-- R36, R124, R123 right after reset (R144): at `State.reset`, which is DSR-DEFAULT with MAXBITS 256 (log 2), and at the
state that the reset step gives in every well-formed configuration, from every state, good or not. -/
def Obligations.ResetSatisfiesTheInvariants : Prop :=
  (Inv State.reset ∧ CountersOk State.reset ∧ PrefixOk State.reset) ∧
  ∀ s : State, s.cfg.wellFormed = true → s.move = .reset →
    ∃ t, step s = .next t ∧ Inv t ∧ CountersOk t ∧ PrefixOk t

/-- R36: the invariants (a) to (g) are kept by every step, from every state that has them. -/
def Obligations.EveryStepKeepsTheInvariant : Prop :=
  ∀ s t : State, Inv s → step s = .next t → Inv t

/-- R121, R129: a state with the invariants of R36 has a next state: no step of such a block stops with a fault or a
refusal of the model (log 11). That a waiting block has a next state too is the model's choice (log 10): by R42 and R153 the
sequencer then has no enabled step. -/
def Obligations.GoodStatesNeverStop : Prop :=
  ∀ s : State, Inv s → ∃ t, step s = .next t

/-- R124: every step keeps the hidden counters in step with `N`. -/
def Obligations.EveryStepKeepsTheCounters : Prop :=
  ∀ s t : State, Inv s → CountersOk s → step s = .next t → CountersOk t

/-- R124: during a run the nested counters are the decomposition of `N` by division, and they select `SampleAt(N)`. -/
def Obligations.CountersSelectTheSample : Prop :=
  ∀ s : State, Inv s → CountersOk s → s.busy = true → s.n.toNat < s.total.toNat →
    counterSample s = sampleAt s s.n.toNat ∧
    s.ctr.r = s.n.toNat / unitLen s ∧
    (s.ctr.seg = .symbols → s.n.toNat % unitLen s < waveLen s ∧
      s.ctr.i = s.n.toNat % unitLen s / sps s.cfg ∧ s.ctr.k = s.n.toNat % unitLen s % sps s.cfg) ∧
    (s.ctr.seg = .pause → waveLen s ≤ s.n.toNat % unitLen s ∧ s.ctr.p = s.n.toNat % unitLen s - waveLen s)

/-- R123, last sentence: at every moment of a run, whatever the consumer's pace, `OUTBUF` is the prefix of length `4 * N`
of the whole buffer; every step keeps this. -/
def Obligations.EveryStepKeepsThePrefix : Prop :=
  ∀ s t : State, Inv s → PrefixOk s → step s = .next t → PrefixOk t

/-- The canonical form of the symbol memory (log 5) is kept by every step, from every state. -/
def Obligations.EveryStepKeepsMemoryCanonical : Prop :=
  State.reset.sym.wf = true ∧ ∀ s t : State, s.sym.wf = true → step s = .next t → t.sym.wf = true

/-- R6, R29(a), R144: no step writes the configuration. -/
def Obligations.NoStepWritesTheConfiguration : Prop :=
  ∀ s t : State, step s = .next t → t.cfg = s.cfg

/-- R28, R40: `OUTBUF` is append-only, by four bytes in one step, and emptied only by an accepted `ENC` or by reset; the
stream only grows, by the one sample of an emission. -/
def Obligations.OutputIsAppendOnly : Prop :=
  ∀ s t : State, step s = .next t →
    (t.outbuf = s.outbuf ∧ t.stream = s.stream) ∨
    (s.busy = true ∧ t.n = s.n + 1 ∧ ∃ v last, t.outbuf = s.outbuf ++ le v ∧ t.stream = s.stream ++ [⟨v, last⟩]) ∨
    (t.outbuf = [] ∧ t.stream = s.stream ∧
      (s.move = .reset ∨ (s.busy = false ∧ ∃ w a soft, s.cmdQueue.head? = some w ∧ decode w = .command (.enc a soft))))

/-- R43: a step of a run that transfers a sample marks it `out_last` exactly when it is the last of the buffer; the other
steps transfer nothing. -/
def Obligations.OutLastMarksTheLastSample : Prop :=
  ∀ s t : State, Inv s → step s = .next t →
    t.stream = s.stream ∨ (s.busy = true ∧ ∃ v last, t.stream = s.stream ++ [⟨v, last⟩] ∧
      sampleAt s s.n.toNat = .ok v ∧ (last = true ↔ t.n = t.total))

/-- R34, R36(c), R125: no step depends on a cell at or above `LEN`: with other contents there, the same step happens, with
the same result in every field, and the two memories still agree below the new `LEN`. -/
def Obligations.StaleCellsDoNotMatter : Prop :=
  ∀ (s t : State) (m : Memory), (∀ i < s.len.toNat, m.read i = s.sym.read i) → step s = .next t →
    ∃ m' : Memory, step { s with sym := m } = .next { t with sym := m' } ∧
      ∀ i < t.len.toNat, m'.read i = t.sym.read i

/-! The result of a run (R110, R123). -/

/-- R107: the sequence of the samples at the positions of the buffer is the frame of the modulated line bits. -/
def Obligations.SamplesAreTheFrame : Prop :=
  ∀ (s : State) (bs : List Byte) (ls : List Bool) (rpt n : Nat), s.cfg.wellFormed = true →
    storedString s = some bs → bs.mapM lineBit = some ls → n < bufferLen s rpt →
    (frame (modulate s.cfg ls) s.cfg.pause rpt).length = bufferLen s rpt ∧
    ∃ v, sampleAt s n = .ok v ∧ (frame (modulate s.cfg ls) s.cfg.pause rpt)[n]? = some v

/-- R123, R153: an `ENC` accepted with every check passed, under a consumer that stalls as it likes but accepts `TOTAL`
samples in the end, and with no reset, gives after exactly `TOTAL` emissions and one completion the bytes of `Encode`; at every
earlier moment `N` is the number of acceptances so far and `OUTBUF` the prefix of `4 * N` bytes. Every step of the run is an
emission, a stall or the completion, so it takes at most `TOTAL`, the stalls and one. That a stall is a step is log 10, and the
script that holds the consumer's pace is log 7. -/
def Obligations.RunProducesTheEncodedBuffer : Prop :=
  ∀ (s : State) (bs : List Byte) (a soft : Bool), Ready s → s.cfgErr = false → s.ovf = false →
    s.len.toNat ≤ s.cfg.maxBits → storedString s = some bs → (∀ c ∈ bs, valid c = true) →
    EventuallyAccepts s (bufferLen s (repeats a soft)) →
    ∃ (t : State) (buf : List Byte), exec (.enc a soft) s = .next t ∧ encodeBuffer s.cfg bs a soft = some buf ∧
      t.total.toNat = repeats a soft * (s.len.toNat * sps s.cfg + s.cfg.pause) ∧
      buf.length = 4 * t.total.toNat ∧
      (∀ m, (∀ j < m, acceptsWithin s j < t.total.toNat) →
        ∃ u, Host.Core.run Sys2Proof.core m t = .next u ∧ u.busy = true ∧ u.n.toNat = acceptsWithin s m ∧
          u.outbuf = buf.take (4 * acceptsWithin s m)) ∧
      ∃ m u, m ≤ t.total.toNat + s.outside.count .stall ∧ acceptsWithin s m = t.total.toNat ∧
        (∀ j < m, acceptsWithin s j < t.total.toNat) ∧ Host.Core.run Sys2Proof.core (m + 1) t = .next u ∧
        u.outbuf = buf ∧ u.done = true ∧ u.busy = false ∧ u.err = .none ∧ u.n = u.total ∧ u.total = t.total ∧
        u.stream.length = s.stream.length + t.total.toNat ∧ u.rpt = BitVec.ofNat 32 (repeats a soft) ∧ u.sym = s.sym ∧
        u.len = s.len ∧ u.ovf = s.ovf ∧ u.cfgErr = s.cfgErr

/-- R109, R111, R72: `Encode` has a value exactly on strings of valid characters, and its length depends on the length of
the string and the repeat count alone. For `SPS = 0`, where R110 defines no `Encode`, that it has a value and this length is
the model's choice (log 21). -/
def Obligations.EncodedLength : Prop :=
  ∀ (c : Config) (bs : List Byte) (a soft : Bool), c.wellFormed = true →
    ((∃ buf, encodeBuffer c bs a soft = some buf) ↔ ∀ ch ∈ bs, valid ch = true) ∧
    (∀ buf, encodeBuffer c bs a soft = some buf →
      buf.length = 4 * (repeats a soft * (bs.length * sps c + c.pause)))

/-- R64, R15, R73: the words of `LOADS` presented to an idle block, with at most `MAXBITS` characters, leave exactly that
string stored, first character first. -/
def Obligations.LoadsStoresTheString : Prop :=
  ∀ (s : State) (cs : List Byte), Ready s → cs.length ≤ s.cfg.maxBits → s.outside = [] →
    s.cmdQueue = wordsOf (loads cs) →
    ∃ t, Host.Core.run Sys2Proof.core (cs.length + 1) s = .next t ∧ storedString t = some cs ∧
      t.len.toNat = cs.length ∧ t.ovf = false ∧ t.err = .none ∧ t.busy = false ∧ t.cmdQueue = [] ∧
      t.done = s.done ∧ t.outbuf = s.outbuf

/-! The datapath: bit mapper, NCO, amplitude modulation engine, formatter (files 40 to 43). -/

/-- R71: `FirstBad` is the least index of a malformed character, or none when every character is valid; it reads the cells
below `LEN` only. -/
def Obligations.FirstBadIsTheLeastIndex : Prop :=
  ∀ (m : Memory) (len : Nat),
    (∀ j c, firstBad m len = .bad j c ↔
      j < len ∧ m.read j = some c ∧ valid c = false ∧ AllValidBelow m j) ∧
    (firstBad m len = .clean ↔ AllValidBelow m len) ∧ firstBad m 0 = .clean ∧
    (∀ m' : Memory, (∀ i < len, m'.read i = m.read i) → firstBad m' len = firstBad m len)

/-- R70: `Invert` is an involution, keeps the length and the alphabet, gives the empty string for the empty string, and
changes every character. -/
def Obligations.InvertIsAnInvolution : Prop :=
  (∀ bs : List Byte, invert (invert bs) = bs ∧ (invert bs).length = bs.length) ∧
  (∀ bs : List Byte, (∀ c ∈ bs, valid c = true) → ∀ c ∈ invert bs, valid c = true) ∧ invert [] = [] ∧
  (∀ (bs : List Byte) (j : Nat) (c : Byte), bs[j]? = some c → ∃ d, (invert bs)[j]? = some d ∧ d ≠ c)

/-- R68, R69, R72: the line bits of a string are the application bits of the inverted string; a malformed character has
neither; `'0'` is sent as carrier and `'1'` as silence. -/
def Obligations.LineBitsAreInvertedBits : Prop :=
  (∀ bs : List Byte, (invert bs).mapM appBit = bs.mapM lineBit) ∧
  (∀ c : Byte, valid c = false → lineBit c = none ∧ appBit c = none) ∧
  lineBit 0x30#8 = some true ∧ lineBit 0x31#8 = some false

/-- R74: `SPS` is the nearest integer to the exact rational `FS_HZ / SYMRATE`, a tie going to the even one. -/
def Obligations.SpsRoundsToNearestEven : Prop :=
  (∀ c : Config, 1 ≤ c.symRate →
    2 * |(sps c : ℤ) * c.symRate - c.fsHz| ≤ c.symRate ∧
    (2 * |(sps c : ℤ) * c.symRate - c.fsHz| = c.symRate → Even (sps c))) ∧
  sps dsrDefault = 2417 ∧ roundHalfEven 5 2 = 2 ∧ roundHalfEven 7 2 = 4 ∧ roundHalfEven 1 2 = 0 ∧
  roundHalfEven 12 3 = 4

/-- R75: a configuration is degenerate exactly when `FS_HZ / SYMRATE <= 1/2`. -/
def Obligations.DegenerateExactlyAtHalf : Prop :=
  ∀ c : Config, 1 ≤ c.symRate → (sps c = 0 ↔ (c.fsHz : ℚ) / c.symRate ≤ 1 / 2)

/-- R77, R78: the endpoint-inclusive time grid: it starts at 0, ends at the symbol duration exactly, in equal steps of
`TSYM / (SPS - 1)`; with one sample a symbol the point is 0. -/
def Obligations.TimeGridIncludesBothEnds : Prop :=
  ∀ c : Config,
    (2 ≤ sps c →
      (∀ k : Nat, sampleTime c k = k * (1 / (c.symRate : ℚ)) / (sps c - 1)) ∧ sampleTime c 0 = 0 ∧
      sampleTime c (sps c - 1) = 1 / (c.symRate : ℚ) ∧
      (∀ k : Nat, sampleTime c (k + 1) - sampleTime c k = 1 / (c.symRate : ℚ) / (sps c - 1))) ∧
    (sps c = 1 → sampleTime c 0 = 0)

/-- R79: the phase of sample `k` is `FC_HZ * k / (SYMRATE * (SPS - 1))` cycles, `k` phase increments exactly. -/
def Obligations.PhaseIsExactAccumulation : Prop :=
  ∀ (c : Config) (k : Nat), 1 ≤ c.symRate →
    (2 ≤ sps c → phase c k = (c.fcHz : ℚ) * k / (c.symRate * (sps c - 1)) ∧ phase c k = k * phaseIncrement c) ∧
    (sps c = 1 → phase c 0 = 0)

/-- R80: the numbers of DSR-DEFAULT; `2 * theta_k` is an integer, and the sine exactly zero, for `k = 0` alone. -/
def Obligations.DefaultPhaseNumbers : Prop :=
  sps dsrDefault = 2417 ∧ phaseIncrement dsrDefault = 19119 / 2899200 ∧ phaseIncrement dsrDefault = 6373 / 966400 ∧
  (∀ k : Nat, sampleTime dsrDefault k = k / 2899200 ∧ phase dsrDefault k = 6373 * k / 966400) ∧
  phase dsrDefault 2416 = 19119 / 1200 ∧
  (∀ k : Nat, k ≤ 2416 → ((∃ z : ℤ, 2 * phase dsrDefault k = z) ↔ k = 0)) ∧
  (∀ k : Nat, k ≤ 2416 → (Real.sin (2 * Real.pi * ((phase dsrDefault k : ℚ) : ℝ)) = 0 ↔ k = 0))

/-- R85: the value of a finite pattern by its fields. -/
def Obligations.BinaryValueByFields : Prop :=
  (∀ p : Word, isFinite32 p = true →
    (expField p = 0 → f32 p = (if signBit p then -1 else 1) * (2 : ℚ) ^ (-126 : ℤ) * (fracField p / 2 ^ 23)) ∧
    (1 ≤ expField p →
      f32 p = (if signBit p then -1 else 1) * (2 : ℚ) ^ ((expField p : ℤ) - 127) * (1 + fracField p / 2 ^ 23))) ∧
  f32 0x00000000#32 = 0 ∧ f32 0x80000000#32 = 0 ∧ f32 0x3F800000#32 = 1 ∧ f32 0xBF800000#32 = -1

/-- R86: `RN32` of a rational below `2^128` in magnitude is its correctly rounded binary32 value. -/
def Obligations.RationalRoundingIsCorrect : Prop :=
  ∀ x : ℚ, |x| < 2 ^ 128 → ∃ p, rn32 x = some p ∧ IsRN32 (x : ℝ) p

/-- R86: a real number has at most one correctly rounded binary32 value, the sign of a zero included. -/
def Obligations.RoundingHasOneAnswer : Prop :=
  ∀ (x : ℝ) (p q : Word), IsRN32 x p → IsRN32 x q → p = q

/-- R91: a carrier sample never exceeds the amplitude, with no tolerance. -/
def Obligations.CarrierSampleBounded : Prop :=
  ∀ (c : Config) (k : Nat) (p : Word), c.ampLegal = true → IsCarrierSample c k p → |f32 p| ≤ f32 c.amp

/-- R92, R95: the first carrier sample of a symbol is `+0.0` in every configuration, and with `AMP = +0.0` every carrier
sample is. -/
def Obligations.ZeroCarrierSamples : Prop :=
  (∀ (c : Config) (p : Word), IsCarrierSample c 0 p ↔ p = 0x00000000#32) ∧
  (∀ (c : Config) (k : Nat) (p : Word), c.amp = 0x00000000#32 → (IsCarrierSample c k p ↔ p = 0x00000000#32))

/-- R91, R92, R94, R95 of what the machine sends: every sample of a buffer is finite and at most `AMP` in magnitude, every
sample is `+0.0` when `AMP` is, and the first sample of every symbol is `+0.0`. And no table that conforms (R88) is refused
for what the check of log 4 asks. -/
def Obligations.SamplesStayInRange : Prop :=
  (∀ (s : State) (n : Nat) (v : Word), s.cfg.wellFormed = true → sampleAt s n = .ok v →
    isFinite32 v = true ∧ |f32 v| ≤ f32 s.cfg.amp ∧ (s.cfg.amp = 0x00000000#32 → v = 0x00000000#32) ∧
    (n % unitLen s < waveLen s → n % unitLen s % sps s.cfg = 0 → v = 0x00000000#32)) ∧
  (∀ c : Config, c.ampLegal = true → Conforms c → tableAdmissible c = true)

/-- R87, R88: the carrier table of TOY2 conforms, and its entries are the carrier samples themselves. -/
def Obligations.SmallTableConforms : Prop :=
  Conforms toy2 ∧ ∀ k p, toy2.carrier[k]? = some p → IsCarrierSample toy2 k p

/-- R88(i) to (iii), R91, R94: the normative table of DSR-DEFAULT has 2417 entries, starts with `+0.0`, is finite and at most
`AMP` in magnitude; 1213 entries are positive and 1203 negative. -/
def Obligations.DefaultTableFacts : Prop :=
  dsrDefault.carrier.length = sps dsrDefault ∧ dsrDefault.carrier[0]? = some 0x00000000#32 ∧
  dsrDefault.carrier.all (fun p => isFinite32 p && decide ((p.extractLsb' 0 31).toNat ≤ dsrDefault.amp.toNat)) = true ∧
  (dsrDefault.carrier.filter (fun p => !signBit p && p != 0)).length = 1213 ∧
  (dsrDefault.carrier.filter signBit).length = 1203 ∧
  dsrDefault.carrier[2416]? = some 0xBED2B203#32

/-- R89, R96, R98, R99: a waveform is the symbols in order, each `SPS` samples long; sample `j` is keyed by line bit
`j div SPS` at index `j mod SPS`; an empty sequence gives an empty waveform. -/
def Obligations.WaveformSamples : Prop :=
  ∀ (c : Config) (ls : List Bool), c.wellFormed = true →
    (modulate c ls).length = ls.length * sps c ∧ modulate c [] = [] ∧
    (∀ j < ls.length * sps c, ∃ b v, ls[j / sps c]? = some b ∧
      (v = if b then c.carrier.getD (j % sps c) 0 else 0x00000000#32) ∧
      key c b (j % sps c) = some v ∧ (modulate c ls)[j]? = some v)

/-- R103, R102: a frame is `repeats` equal units back to back, each the waveform and then the pause's zeros. -/
def Obligations.FrameIsEqualUnits : Prop :=
  ∀ (w : List Word) (pause rpt : Nat),
    (frame w pause rpt).length = rpt * (w.length + pause) ∧
    (∀ r < rpt, ∀ j < w.length, (frame w pause rpt)[r * (w.length + pause) + j]? = w[j]?) ∧
    (∀ r < rpt, ∀ j, w.length ≤ j → j < w.length + pause →
      (frame w pause rpt)[r * (w.length + pause) + j]? = some 0x00000000#32) ∧
    frame w pause 0 = [] ∧ frame [] pause rpt = zeros (rpt * pause)

/-- R104: twenty repeats for an adjustment command with soft regulation, four for every other combination. -/
def Obligations.RepeatPolicy : Prop :=
  repeats true true = 20 ∧ repeats true false = 4 ∧ repeats false true = 4 ∧ repeats false false = 4

/-- R108, R44, R45: serialising gives four bytes a sample, least significant first, sample `n` at offset `4n`. -/
def Obligations.SerialisedBytes : Prop :=
  ∀ xs : List Word,
    (serialise xs).length = 4 * xs.length ∧
    (∀ (n j : Nat) (v : Word), xs[n]? = some v → j < 4 →
      (serialise xs)[4 * n + j]? = some (v.extractLsb' (8 * j) 8))

/-! The status port (10_state.md R30 to R32). -/

/-- R30: the bits of `SW0`, with the codes of the outcomes (R21, R129). -/
def Obligations.StatusWordBits : Prop :=
  (∀ s : State,
    (statusWord s 0).getLsbD 0 = s.busy ∧ (statusWord s 0).getLsbD 1 = s.done ∧
    (statusWord s 0).getLsbD 2 = s.ovf ∧ (statusWord s 0).getLsbD 3 = s.cfgErr ∧
    (statusWord s 0).extractLsb' 4 3 = s.err.code ∧ (statusWord s 0).getLsbD 7 = false ∧
    (statusWord s 0).extractLsb' 8 8 = s.errCh ∧ (statusWord s 0).extractLsb' 16 16 = 0) ∧
  ErrCode.none.code = 0 ∧ ErrCode.malformedBitSequence.code = 1 ∧ ErrCode.degenerateSymbolParameters.code = 2 ∧
  ErrCode.illegalCommand.code = 3 ∧ ErrCode.symbolOverflow.code = 4

/-- R31: the counters on the status port, and that successive reads of `SW5` in a run do not decrease. -/
def Obligations.StatusCounters : Prop :=
  (∀ s : State, statusWord s 1 = s.len ∧ statusWord s 2 = s.errIdx ∧ statusWord s 3 = s.rpt ∧
    statusWord s 4 = s.total ∧ statusWord s 5 = s.n) ∧
  (∀ s t : State, s.busy = true → s.move ≠ .reset → step s = .next t →
    (statusWord s 5).toNat ≤ (statusWord t 5).toNat)

/-- R32: the configuration on the status port, whole in a well-formed configuration (log 3), the same in every state of
one configuration. -/
def Obligations.StatusShowsTheConfiguration : Prop :=
  (∀ s : State, s.cfg.wellFormed = true →
    (statusWord s 6).toNat = sps s.cfg ∧ (statusWord s 7).toNat = s.cfg.pause ∧ statusWord s 8 = s.cfg.amp ∧
    (statusWord s 9).toNat = s.cfg.fcHz ∧ (statusWord s 10).toNat = s.cfg.fsHz ∧
    (statusWord s 11).toNat = s.cfg.symRate ∧ (statusWord s 12).toNat = s.cfg.maxBits ∧
    statusWord s 13 = 0x41534B01#32) ∧
  (statusWord State.reset 6).toNat = 2417 ∧ (statusWord State.reset 7).toNat = 71400 ∧
  statusWord State.reset 8 = 0x3F800000#32 ∧ (statusWord State.reset 9).toNat = 19119 ∧
  (statusWord State.reset 10).toNat = 2900000 ∧ (statusWord State.reset 11).toNat = 1200 ∧
  (statusWord State.reset 12).toNat = 256
end

