-- ==== Sys2Proof/Laws/Config.lean ====
section
/-! SUPPORT. What a well-formed configuration gives (R10), and that the named configurations are well-formed. -/

namespace Sys2Proof

theorem hasLength_iff {α : Type} (xs : List α) (n : Nat) : hasLength xs n = true ↔ xs.length = n := by
  induction xs generalizing n with
  | nil => cases n <;> simp [hasLength]
  | cons x xs ih => cases n <;> simp [hasLength, ih]

/-- Each condition of R10, and the width of MAXBITS (R32), from the one check. -/
theorem Config.wellFormed_parts (c : Config) (h : c.wellFormed = true) :
    1 ≤ c.symRate ∧ 1 ≤ c.maxBits ∧ c.ampLegal = true ∧ 20 * (c.maxBits * Machine.sps c + c.pause) < 2 ^ 32 ∧
      c.carrier.length = Machine.sps c ∧ c.maxBits < 2 ^ 32 := by
  simp only [Config.wellFormed, Config.fitsStatusWords, Bool.and_eq_true, decide_eq_true_eq, hasLength_iff] at h
  obtain ⟨⟨⟨⟨⟨⟨h1, h2⟩, h3⟩, h4⟩, h5⟩, h6⟩, -⟩ := h
  exact ⟨h1, h2, h3, h4, h5, h6.2⟩

/-- The carrier table of a well-formed configuration, entry by entry (R88(ii), (iii), R95). -/
theorem Config.wellFormed_table (c : Config) (h : c.wellFormed = true) :
    (∀ p, c.carrier[0]? = some p → p = Machine.silence) ∧
      (∀ p ∈ c.carrier, Machine.isFinite32 p = true ∧ Machine.magnitude32 p ≤ Machine.magnitude32 c.amp) ∧
      (c.amp = Machine.silence → ∀ p ∈ c.carrier, p = Machine.silence) := by
  simp only [Config.wellFormed, Bool.and_eq_true, Machine.tableAdmissible] at h
  obtain ⟨-, ⟨h1, h2⟩, h3⟩ := h
  refine ⟨fun p hp => ?_, fun p hp => ?_, fun ha p hp => ?_⟩
  · cases hc : c.carrier with
    | nil => simp [hc] at hp
    | cons q qs => simp_all [Machine.startsSilent]
  · simpa [Machine.entryInRange] using List.all_eq_true.mp h2 p hp
  · simp only [Machine.silentIfNoAmplitude, ha, bne_self_eq_false, Bool.false_or] at h3
    simpa using List.all_eq_true.mp h3 p hp

namespace Machine

theorem dsrDefault_wellFormed : dsrDefault.wellFormed = true := by decide +kernel

theorem toy_wellFormed : toy.wellFormed = true := by decide

theorem toy2_wellFormed : toy2.wellFormed = true := by decide

theorem degen_wellFormed : degen.wellFormed = true := by decide

end Machine

end Sys2Proof
end

