-- ==== Sys2Proof/Laws/Memory.lean ====
section
/-! SUPPORT. The laws of the symbol memory: a cell written reads as written, every other cell reads as before, and every
operation keeps the canonical form and the bound. -/

namespace Sys2Proof.Machine

@[simp] theorem Memory.read_nil (i : Nat) : Memory.read [] i = none := rfl

@[simp] theorem Memory.wf_nil : Memory.wf [] = true := rfl

@[simp] theorem Memory.within_nil (bound : Nat) : Memory.within [] bound = true := rfl

theorem Memory.read_write_same (m : Memory) (i : Nat) (c : Byte) : (m.write i c).read i = some c := by
  induction m with
  | nil => simp [Memory.write, Memory.read]
  | cons e rest ih =>
    obtain ⟨a, b⟩ := e
    rcases Nat.lt_trichotomy i a with h | h | h
    · simp [Memory.write, Memory.read, h]
    · simp [Memory.write, Memory.read, h]
    · have h1 : ¬ i < a := by omega
      have h2 : i ≠ a := by omega
      simp [Memory.write, Memory.read, h1, h2, Ne.symm h2, ih]

theorem Memory.read_write_other (m : Memory) (i j : Nat) (c : Byte) (h : j ≠ i) :
    (m.write i c).read j = m.read j := by
  induction m with
  | nil => simp [Memory.write, Memory.read, Ne.symm h]
  | cons e rest ih =>
    obtain ⟨a, b⟩ := e
    rcases Nat.lt_trichotomy i a with hi | hi | hi
    · simp [Memory.write, Memory.read, hi, Ne.symm h]
    · subst hi
      simp [Memory.write, Memory.read, Ne.symm h]
    · have h1 : ¬ i < a := by omega
      have h2 : i ≠ a := by omega
      simp [Memory.write, Memory.read, h1, h2, ih]

theorem Memory.risesAbove_write (m : Memory) (lo i : Nat) (c : Byte) (hlo : lo < i)
    (h : Memory.risesAbove lo m = true) : Memory.risesAbove lo (m.write i c) = true := by
  induction m generalizing lo with
  | nil => simp [Memory.write, Memory.risesAbove, hlo]
  | cons e rest ih =>
    obtain ⟨a, b⟩ := e
    simp only [Memory.risesAbove, Bool.and_eq_true, decide_eq_true_eq] at h
    rcases Nat.lt_trichotomy i a with hi | hi | hi
    · simp [Memory.write, Memory.risesAbove, hi, hlo, h.2]
    · subst hi
      simp [Memory.write, Memory.risesAbove, hlo, h.2]
    · have h1 : ¬ i < a := by omega
      have h2 : i ≠ a := by omega
      simp [Memory.write, Memory.risesAbove, h1, h2, h.1, ih a hi h.2]

/-- A write keeps the canonical form. -/
theorem Memory.wf_write (m : Memory) (i : Nat) (c : Byte) (h : m.wf = true) : (m.write i c).wf = true := by
  cases m with
  | nil => simp [Memory.write, Memory.wf, Memory.risesAbove]
  | cons e rest =>
    obtain ⟨a, b⟩ := e
    rcases Nat.lt_trichotomy i a with hi | hi | hi
    · simpa [Memory.write, Memory.wf, Memory.risesAbove, hi] using h
    · subst hi
      simpa [Memory.write, Memory.wf] using h
    · have h1 : ¬ i < a := by omega
      have h2 : i ≠ a := by omega
      simpa [Memory.write, Memory.wf, h1, h2] using Memory.risesAbove_write rest a i c hi h

/-- A write at an index below the bound names no cell at or above it. -/
theorem Memory.within_write (m : Memory) (i bound : Nat) (c : Byte) (hi : i < bound)
    (h : m.within bound = true) : (m.write i c).within bound = true := by
  induction m with
  | nil => simp [Memory.write, Memory.within, hi]
  | cons e rest ih =>
    obtain ⟨a, b⟩ := e
    simp only [Memory.within, List.all_cons, Bool.and_eq_true] at h
    unfold Memory.write
    split
    · simp [Memory.within, hi, h.1, h.2]
    · split
      · simp [Memory.within, hi, h.2]
      · have hr := ih h.2
        unfold Memory.within at hr
        simp [Memory.within, h.1, hr]

end Sys2Proof.Machine
end

