-- ==== Sys2Proof/Laws/State.lean ====
section
/-! SUPPORT. One lemma per field per update of the state, true by rfl, so that no proof unfolds a record update. -/

namespace Sys2Proof.Machine

variable (s : State)

/-! The fields after fault entry (R135). -/

@[simp] theorem State.raise_cfg (f : ErrCode) (idx : Word) (ch : Byte) : (s.raise f idx ch).cfg = s.cfg := rfl
@[simp] theorem State.raise_sym (f : ErrCode) (idx : Word) (ch : Byte) : (s.raise f idx ch).sym = s.sym := rfl
@[simp] theorem State.raise_len (f : ErrCode) (idx : Word) (ch : Byte) : (s.raise f idx ch).len = s.len := rfl
@[simp] theorem State.raise_ovf (f : ErrCode) (idx : Word) (ch : Byte) : (s.raise f idx ch).ovf = s.ovf := rfl
@[simp] theorem State.raise_busy (f : ErrCode) (idx : Word) (ch : Byte) : (s.raise f idx ch).busy = s.busy := rfl
@[simp] theorem State.raise_done (f : ErrCode) (idx : Word) (ch : Byte) : (s.raise f idx ch).done = s.done := rfl
@[simp] theorem State.raise_err (f : ErrCode) (idx : Word) (ch : Byte) : (s.raise f idx ch).err = f := rfl
@[simp] theorem State.raise_errIdx (f : ErrCode) (idx : Word) (ch : Byte) : (s.raise f idx ch).errIdx = idx := rfl
@[simp] theorem State.raise_errCh (f : ErrCode) (idx : Word) (ch : Byte) : (s.raise f idx ch).errCh = ch := rfl
@[simp] theorem State.raise_cfgErr (f : ErrCode) (idx : Word) (ch : Byte) :
    (s.raise f idx ch).cfgErr = s.cfgErr := rfl
@[simp] theorem State.raise_rpt (f : ErrCode) (idx : Word) (ch : Byte) : (s.raise f idx ch).rpt = s.rpt := rfl
@[simp] theorem State.raise_n (f : ErrCode) (idx : Word) (ch : Byte) : (s.raise f idx ch).n = s.n := rfl
@[simp] theorem State.raise_total (f : ErrCode) (idx : Word) (ch : Byte) : (s.raise f idx ch).total = s.total := rfl
@[simp] theorem State.raise_ctr (f : ErrCode) (idx : Word) (ch : Byte) : (s.raise f idx ch).ctr = s.ctr := rfl
@[simp] theorem State.raise_outbuf (f : ErrCode) (idx : Word) (ch : Byte) :
    (s.raise f idx ch).outbuf = s.outbuf := rfl
@[simp] theorem State.raise_stream (f : ErrCode) (idx : Word) (ch : Byte) :
    (s.raise f idx ch).stream = s.stream := rfl
@[simp] theorem State.raise_cmdQueue (f : ErrCode) (idx : Word) (ch : Byte) :
    (s.raise f idx ch).cmdQueue = s.cmdQueue := rfl
@[simp] theorem State.raise_outside (f : ErrCode) (idx : Word) (ch : Byte) :
    (s.raise f idx ch).outside = s.outside := rfl
@[simp] theorem State.raise_outReady (f : ErrCode) (idx : Word) (ch : Byte) :
    (s.raise f idx ch).outReady = s.outReady := rfl

/-! The fields after a command that succeeds (R21). -/

@[simp] theorem State.succeed_cfg : (s.succeed).cfg = s.cfg := rfl
@[simp] theorem State.succeed_sym : (s.succeed).sym = s.sym := rfl
@[simp] theorem State.succeed_len : (s.succeed).len = s.len := rfl
@[simp] theorem State.succeed_ovf : (s.succeed).ovf = s.ovf := rfl
@[simp] theorem State.succeed_busy : (s.succeed).busy = s.busy := rfl
@[simp] theorem State.succeed_done : (s.succeed).done = s.done := rfl
@[simp] theorem State.succeed_err : (s.succeed).err = .none := rfl
@[simp] theorem State.succeed_errIdx : (s.succeed).errIdx = 0 := rfl
@[simp] theorem State.succeed_errCh : (s.succeed).errCh = 0 := rfl
@[simp] theorem State.succeed_cfgErr : (s.succeed).cfgErr = s.cfgErr := rfl
@[simp] theorem State.succeed_rpt : (s.succeed).rpt = s.rpt := rfl
@[simp] theorem State.succeed_n : (s.succeed).n = s.n := rfl
@[simp] theorem State.succeed_total : (s.succeed).total = s.total := rfl
@[simp] theorem State.succeed_ctr : (s.succeed).ctr = s.ctr := rfl
@[simp] theorem State.succeed_outbuf : (s.succeed).outbuf = s.outbuf := rfl
@[simp] theorem State.succeed_stream : (s.succeed).stream = s.stream := rfl
@[simp] theorem State.succeed_cmdQueue : (s.succeed).cmdQueue = s.cmdQueue := rfl
@[simp] theorem State.succeed_outside : (s.succeed).outside = s.outside := rfl
@[simp] theorem State.succeed_outReady : (s.succeed).outReady = s.outReady := rfl

/-! The fields after `CLRB` (R114). -/

@[simp] theorem State.emptyString_cfg : (s.emptyString).cfg = s.cfg := rfl
@[simp] theorem State.emptyString_sym : (s.emptyString).sym = s.sym := rfl
@[simp] theorem State.emptyString_len : (s.emptyString).len = 0 := rfl
@[simp] theorem State.emptyString_ovf : (s.emptyString).ovf = false := rfl
@[simp] theorem State.emptyString_busy : (s.emptyString).busy = s.busy := rfl
@[simp] theorem State.emptyString_done : (s.emptyString).done = s.done := rfl
@[simp] theorem State.emptyString_err : (s.emptyString).err = s.err := rfl
@[simp] theorem State.emptyString_errIdx : (s.emptyString).errIdx = s.errIdx := rfl
@[simp] theorem State.emptyString_errCh : (s.emptyString).errCh = s.errCh := rfl
@[simp] theorem State.emptyString_cfgErr : (s.emptyString).cfgErr = s.cfgErr := rfl
@[simp] theorem State.emptyString_rpt : (s.emptyString).rpt = s.rpt := rfl
@[simp] theorem State.emptyString_n : (s.emptyString).n = s.n := rfl
@[simp] theorem State.emptyString_total : (s.emptyString).total = s.total := rfl
@[simp] theorem State.emptyString_ctr : (s.emptyString).ctr = s.ctr := rfl
@[simp] theorem State.emptyString_outbuf : (s.emptyString).outbuf = s.outbuf := rfl
@[simp] theorem State.emptyString_stream : (s.emptyString).stream = s.stream := rfl
@[simp] theorem State.emptyString_cmdQueue : (s.emptyString).cmdQueue = s.cmdQueue := rfl
@[simp] theorem State.emptyString_outside : (s.emptyString).outside = s.outside := rfl
@[simp] theorem State.emptyString_outReady : (s.emptyString).outReady = s.outReady := rfl

/-! The fields after `PUSHC` (R115). -/

@[simp] theorem State.appendChar_cfg (ch : Byte) : (s.appendChar ch).cfg = s.cfg := rfl
@[simp] theorem State.appendChar_sym (ch : Byte) : (s.appendChar ch).sym = s.sym.write s.len.toNat ch := rfl
@[simp] theorem State.appendChar_len (ch : Byte) : (s.appendChar ch).len = s.len + 1 := rfl
@[simp] theorem State.appendChar_ovf (ch : Byte) : (s.appendChar ch).ovf = s.ovf := rfl
@[simp] theorem State.appendChar_busy (ch : Byte) : (s.appendChar ch).busy = s.busy := rfl
@[simp] theorem State.appendChar_done (ch : Byte) : (s.appendChar ch).done = s.done := rfl
@[simp] theorem State.appendChar_err (ch : Byte) : (s.appendChar ch).err = s.err := rfl
@[simp] theorem State.appendChar_errIdx (ch : Byte) : (s.appendChar ch).errIdx = s.errIdx := rfl
@[simp] theorem State.appendChar_errCh (ch : Byte) : (s.appendChar ch).errCh = s.errCh := rfl
@[simp] theorem State.appendChar_cfgErr (ch : Byte) : (s.appendChar ch).cfgErr = s.cfgErr := rfl
@[simp] theorem State.appendChar_rpt (ch : Byte) : (s.appendChar ch).rpt = s.rpt := rfl
@[simp] theorem State.appendChar_n (ch : Byte) : (s.appendChar ch).n = s.n := rfl
@[simp] theorem State.appendChar_total (ch : Byte) : (s.appendChar ch).total = s.total := rfl
@[simp] theorem State.appendChar_ctr (ch : Byte) : (s.appendChar ch).ctr = s.ctr := rfl
@[simp] theorem State.appendChar_outbuf (ch : Byte) : (s.appendChar ch).outbuf = s.outbuf := rfl
@[simp] theorem State.appendChar_stream (ch : Byte) : (s.appendChar ch).stream = s.stream := rfl
@[simp] theorem State.appendChar_cmdQueue (ch : Byte) : (s.appendChar ch).cmdQueue = s.cmdQueue := rfl
@[simp] theorem State.appendChar_outside (ch : Byte) : (s.appendChar ch).outside = s.outside := rfl
@[simp] theorem State.appendChar_outReady (ch : Byte) : (s.appendChar ch).outReady = s.outReady := rfl

/-! The fields after the overflow mark (R132). -/

@[simp] theorem State.markOverflow_cfg : (s.markOverflow).cfg = s.cfg := rfl
@[simp] theorem State.markOverflow_sym : (s.markOverflow).sym = s.sym := rfl
@[simp] theorem State.markOverflow_len : (s.markOverflow).len = s.len := rfl
@[simp] theorem State.markOverflow_ovf : (s.markOverflow).ovf = true := rfl
@[simp] theorem State.markOverflow_busy : (s.markOverflow).busy = s.busy := rfl
@[simp] theorem State.markOverflow_done : (s.markOverflow).done = s.done := rfl
@[simp] theorem State.markOverflow_err : (s.markOverflow).err = s.err := rfl
@[simp] theorem State.markOverflow_errIdx : (s.markOverflow).errIdx = s.errIdx := rfl
@[simp] theorem State.markOverflow_errCh : (s.markOverflow).errCh = s.errCh := rfl
@[simp] theorem State.markOverflow_cfgErr : (s.markOverflow).cfgErr = s.cfgErr := rfl
@[simp] theorem State.markOverflow_rpt : (s.markOverflow).rpt = s.rpt := rfl
@[simp] theorem State.markOverflow_n : (s.markOverflow).n = s.n := rfl
@[simp] theorem State.markOverflow_total : (s.markOverflow).total = s.total := rfl
@[simp] theorem State.markOverflow_ctr : (s.markOverflow).ctr = s.ctr := rfl
@[simp] theorem State.markOverflow_outbuf : (s.markOverflow).outbuf = s.outbuf := rfl
@[simp] theorem State.markOverflow_stream : (s.markOverflow).stream = s.stream := rfl
@[simp] theorem State.markOverflow_cmdQueue : (s.markOverflow).cmdQueue = s.cmdQueue := rfl
@[simp] theorem State.markOverflow_outside : (s.markOverflow).outside = s.outside := rfl
@[simp] theorem State.markOverflow_outReady : (s.markOverflow).outReady = s.outReady := rfl

/-! The fields after a fresh buffer (R116). -/

@[simp] theorem State.freshBuffer_cfg : (s.freshBuffer).cfg = s.cfg := rfl
@[simp] theorem State.freshBuffer_sym : (s.freshBuffer).sym = s.sym := rfl
@[simp] theorem State.freshBuffer_len : (s.freshBuffer).len = s.len := rfl
@[simp] theorem State.freshBuffer_ovf : (s.freshBuffer).ovf = s.ovf := rfl
@[simp] theorem State.freshBuffer_busy : (s.freshBuffer).busy = s.busy := rfl
@[simp] theorem State.freshBuffer_done : (s.freshBuffer).done = false := rfl
@[simp] theorem State.freshBuffer_err : (s.freshBuffer).err = s.err := rfl
@[simp] theorem State.freshBuffer_errIdx : (s.freshBuffer).errIdx = s.errIdx := rfl
@[simp] theorem State.freshBuffer_errCh : (s.freshBuffer).errCh = s.errCh := rfl
@[simp] theorem State.freshBuffer_cfgErr : (s.freshBuffer).cfgErr = s.cfgErr := rfl
@[simp] theorem State.freshBuffer_rpt : (s.freshBuffer).rpt = s.rpt := rfl
@[simp] theorem State.freshBuffer_n : (s.freshBuffer).n = s.n := rfl
@[simp] theorem State.freshBuffer_total : (s.freshBuffer).total = s.total := rfl
@[simp] theorem State.freshBuffer_ctr : (s.freshBuffer).ctr = s.ctr := rfl
@[simp] theorem State.freshBuffer_outbuf : (s.freshBuffer).outbuf = [] := rfl
@[simp] theorem State.freshBuffer_stream : (s.freshBuffer).stream = s.stream := rfl
@[simp] theorem State.freshBuffer_cmdQueue : (s.freshBuffer).cmdQueue = s.cmdQueue := rfl
@[simp] theorem State.freshBuffer_outside : (s.freshBuffer).outside = s.outside := rfl
@[simp] theorem State.freshBuffer_outReady : (s.freshBuffer).outReady = s.outReady := rfl

/-! The fields after the start of a run (R116). -/

@[simp] theorem State.startRun_cfg (r t : Nat) : (s.startRun r t).cfg = s.cfg := rfl
@[simp] theorem State.startRun_sym (r t : Nat) : (s.startRun r t).sym = s.sym := rfl
@[simp] theorem State.startRun_len (r t : Nat) : (s.startRun r t).len = s.len := rfl
@[simp] theorem State.startRun_ovf (r t : Nat) : (s.startRun r t).ovf = s.ovf := rfl
@[simp] theorem State.startRun_busy (r t : Nat) : (s.startRun r t).busy = true := rfl
@[simp] theorem State.startRun_done (r t : Nat) : (s.startRun r t).done = s.done := rfl
@[simp] theorem State.startRun_err (r t : Nat) : (s.startRun r t).err = s.err := rfl
@[simp] theorem State.startRun_errIdx (r t : Nat) : (s.startRun r t).errIdx = s.errIdx := rfl
@[simp] theorem State.startRun_errCh (r t : Nat) : (s.startRun r t).errCh = s.errCh := rfl
@[simp] theorem State.startRun_cfgErr (r t : Nat) : (s.startRun r t).cfgErr = s.cfgErr := rfl
@[simp] theorem State.startRun_rpt (r t : Nat) : (s.startRun r t).rpt = BitVec.ofNat 32 r := rfl
@[simp] theorem State.startRun_n (r t : Nat) : (s.startRun r t).n = 0 := rfl
@[simp] theorem State.startRun_total (r t : Nat) : (s.startRun r t).total = BitVec.ofNat 32 t := rfl
@[simp] theorem State.startRun_ctr (r t : Nat) : (s.startRun r t).ctr = Counters.start s.len.toNat := rfl
@[simp] theorem State.startRun_outbuf (r t : Nat) : (s.startRun r t).outbuf = s.outbuf := rfl
@[simp] theorem State.startRun_stream (r t : Nat) : (s.startRun r t).stream = s.stream := rfl
@[simp] theorem State.startRun_cmdQueue (r t : Nat) : (s.startRun r t).cmdQueue = s.cmdQueue := rfl
@[simp] theorem State.startRun_outside (r t : Nat) : (s.startRun r t).outside = s.outside := rfl
@[simp] theorem State.startRun_outReady (r t : Nat) : (s.startRun r t).outReady = s.outReady := rfl

/-! The fields after EMIT (R121). -/

@[simp] theorem State.emitted_cfg (v : Word) : (s.emitted v).cfg = s.cfg := rfl
@[simp] theorem State.emitted_sym (v : Word) : (s.emitted v).sym = s.sym := rfl
@[simp] theorem State.emitted_len (v : Word) : (s.emitted v).len = s.len := rfl
@[simp] theorem State.emitted_ovf (v : Word) : (s.emitted v).ovf = s.ovf := rfl
@[simp] theorem State.emitted_busy (v : Word) : (s.emitted v).busy = s.busy := rfl
@[simp] theorem State.emitted_done (v : Word) : (s.emitted v).done = s.done := rfl
@[simp] theorem State.emitted_err (v : Word) : (s.emitted v).err = s.err := rfl
@[simp] theorem State.emitted_errIdx (v : Word) : (s.emitted v).errIdx = s.errIdx := rfl
@[simp] theorem State.emitted_errCh (v : Word) : (s.emitted v).errCh = s.errCh := rfl
@[simp] theorem State.emitted_cfgErr (v : Word) : (s.emitted v).cfgErr = s.cfgErr := rfl
@[simp] theorem State.emitted_rpt (v : Word) : (s.emitted v).rpt = s.rpt := rfl
@[simp] theorem State.emitted_n (v : Word) : (s.emitted v).n = s.n + 1 := rfl
@[simp] theorem State.emitted_total (v : Word) : (s.emitted v).total = s.total := rfl
@[simp] theorem State.emitted_ctr (v : Word) : (s.emitted v).ctr = s.ctr.advance s.cfg s.len.toNat := rfl
@[simp] theorem State.emitted_outbuf (v : Word) : (s.emitted v).outbuf = s.outbuf ++ le v := rfl
@[simp] theorem State.emitted_stream (v : Word) :
    (s.emitted v).stream = s.stream ++ [{ data := v, last := outLast s }] := rfl
@[simp] theorem State.emitted_cmdQueue (v : Word) : (s.emitted v).cmdQueue = s.cmdQueue := rfl
@[simp] theorem State.emitted_outside (v : Word) : (s.emitted v).outside = s.outside := rfl
@[simp] theorem State.emitted_outReady (v : Word) : (s.emitted v).outReady = s.outReady := rfl

/-! The fields after COMPLETE (R122). -/

@[simp] theorem State.completed_cfg : (s.completed).cfg = s.cfg := rfl
@[simp] theorem State.completed_sym : (s.completed).sym = s.sym := rfl
@[simp] theorem State.completed_len : (s.completed).len = s.len := rfl
@[simp] theorem State.completed_ovf : (s.completed).ovf = s.ovf := rfl
@[simp] theorem State.completed_busy : (s.completed).busy = false := rfl
@[simp] theorem State.completed_done : (s.completed).done = true := rfl
@[simp] theorem State.completed_err : (s.completed).err = s.err := rfl
@[simp] theorem State.completed_errIdx : (s.completed).errIdx = s.errIdx := rfl
@[simp] theorem State.completed_errCh : (s.completed).errCh = s.errCh := rfl
@[simp] theorem State.completed_cfgErr : (s.completed).cfgErr = s.cfgErr := rfl
@[simp] theorem State.completed_rpt : (s.completed).rpt = s.rpt := rfl
@[simp] theorem State.completed_n : (s.completed).n = s.n := rfl
@[simp] theorem State.completed_total : (s.completed).total = s.total := rfl
@[simp] theorem State.completed_ctr : (s.completed).ctr = s.ctr := rfl
@[simp] theorem State.completed_outbuf : (s.completed).outbuf = s.outbuf := rfl
@[simp] theorem State.completed_stream : (s.completed).stream = s.stream := rfl
@[simp] theorem State.completed_cmdQueue : (s.completed).cmdQueue = s.cmdQueue := rfl
@[simp] theorem State.completed_outside : (s.completed).outside = s.outside := rfl
@[simp] theorem State.completed_outReady : (s.completed).outReady = s.outReady := rfl

/-! The fields after RESET (R144). -/

@[simp] theorem State.afterReset_cfg : (s.afterReset).cfg = s.cfg := rfl
@[simp] theorem State.afterReset_sym : (s.afterReset).sym = [] := rfl
@[simp] theorem State.afterReset_len : (s.afterReset).len = 0 := rfl
@[simp] theorem State.afterReset_ovf : (s.afterReset).ovf = false := rfl
@[simp] theorem State.afterReset_busy : (s.afterReset).busy = false := rfl
@[simp] theorem State.afterReset_done : (s.afterReset).done = false := rfl
@[simp] theorem State.afterReset_err : (s.afterReset).err = .none := rfl
@[simp] theorem State.afterReset_errIdx : (s.afterReset).errIdx = 0 := rfl
@[simp] theorem State.afterReset_errCh : (s.afterReset).errCh = 0 := rfl
@[simp] theorem State.afterReset_cfgErr : (s.afterReset).cfgErr = (sps s.cfg == 0) := rfl
@[simp] theorem State.afterReset_rpt : (s.afterReset).rpt = 0 := rfl
@[simp] theorem State.afterReset_n : (s.afterReset).n = 0 := rfl
@[simp] theorem State.afterReset_total : (s.afterReset).total = 0 := rfl
@[simp] theorem State.afterReset_ctr : (s.afterReset).ctr = Counters.atReset := rfl
@[simp] theorem State.afterReset_outbuf : (s.afterReset).outbuf = [] := rfl
@[simp] theorem State.afterReset_stream : (s.afterReset).stream = s.stream := rfl
@[simp] theorem State.afterReset_cmdQueue : (s.afterReset).cmdQueue = s.cmdQueue := rfl
@[simp] theorem State.afterReset_outside : (s.afterReset).outside = s.outside := rfl
@[simp] theorem State.afterReset_outReady : (s.afterReset).outReady = s.outReady := rfl

/-! The fields after the outside world's move used up (log 7). -/

@[simp] theorem State.nextMove_cfg : (s.nextMove).cfg = s.cfg := rfl
@[simp] theorem State.nextMove_sym : (s.nextMove).sym = s.sym := rfl
@[simp] theorem State.nextMove_len : (s.nextMove).len = s.len := rfl
@[simp] theorem State.nextMove_ovf : (s.nextMove).ovf = s.ovf := rfl
@[simp] theorem State.nextMove_busy : (s.nextMove).busy = s.busy := rfl
@[simp] theorem State.nextMove_done : (s.nextMove).done = s.done := rfl
@[simp] theorem State.nextMove_err : (s.nextMove).err = s.err := rfl
@[simp] theorem State.nextMove_errIdx : (s.nextMove).errIdx = s.errIdx := rfl
@[simp] theorem State.nextMove_errCh : (s.nextMove).errCh = s.errCh := rfl
@[simp] theorem State.nextMove_cfgErr : (s.nextMove).cfgErr = s.cfgErr := rfl
@[simp] theorem State.nextMove_rpt : (s.nextMove).rpt = s.rpt := rfl
@[simp] theorem State.nextMove_n : (s.nextMove).n = s.n := rfl
@[simp] theorem State.nextMove_total : (s.nextMove).total = s.total := rfl
@[simp] theorem State.nextMove_ctr : (s.nextMove).ctr = s.ctr := rfl
@[simp] theorem State.nextMove_outbuf : (s.nextMove).outbuf = s.outbuf := rfl
@[simp] theorem State.nextMove_stream : (s.nextMove).stream = s.stream := rfl
@[simp] theorem State.nextMove_cmdQueue : (s.nextMove).cmdQueue = s.cmdQueue := rfl
@[simp] theorem State.nextMove_outside : (s.nextMove).outside = s.outside.tail := rfl
@[simp] theorem State.nextMove_outReady : (s.nextMove).outReady = s.outReady := rfl

/-! The fields after the word on the port accepted (log 6). -/

@[simp] theorem State.takeWord_cfg : (s.takeWord).cfg = s.cfg := rfl
@[simp] theorem State.takeWord_sym : (s.takeWord).sym = s.sym := rfl
@[simp] theorem State.takeWord_len : (s.takeWord).len = s.len := rfl
@[simp] theorem State.takeWord_ovf : (s.takeWord).ovf = s.ovf := rfl
@[simp] theorem State.takeWord_busy : (s.takeWord).busy = s.busy := rfl
@[simp] theorem State.takeWord_done : (s.takeWord).done = s.done := rfl
@[simp] theorem State.takeWord_err : (s.takeWord).err = s.err := rfl
@[simp] theorem State.takeWord_errIdx : (s.takeWord).errIdx = s.errIdx := rfl
@[simp] theorem State.takeWord_errCh : (s.takeWord).errCh = s.errCh := rfl
@[simp] theorem State.takeWord_cfgErr : (s.takeWord).cfgErr = s.cfgErr := rfl
@[simp] theorem State.takeWord_rpt : (s.takeWord).rpt = s.rpt := rfl
@[simp] theorem State.takeWord_n : (s.takeWord).n = s.n := rfl
@[simp] theorem State.takeWord_total : (s.takeWord).total = s.total := rfl
@[simp] theorem State.takeWord_ctr : (s.takeWord).ctr = s.ctr := rfl
@[simp] theorem State.takeWord_outbuf : (s.takeWord).outbuf = s.outbuf := rfl
@[simp] theorem State.takeWord_stream : (s.takeWord).stream = s.stream := rfl
@[simp] theorem State.takeWord_cmdQueue : (s.takeWord).cmdQueue = s.cmdQueue.tail := rfl
@[simp] theorem State.takeWord_outside : (s.takeWord).outside = s.outside := rfl
@[simp] theorem State.takeWord_outReady : (s.takeWord).outReady = s.outReady := rfl

/-! The fields after a word placed on the port (log 8). -/

@[simp] theorem State.withWord_cfg (w : Word) : (s.withWord w).cfg = s.cfg := rfl
@[simp] theorem State.withWord_sym (w : Word) : (s.withWord w).sym = s.sym := rfl
@[simp] theorem State.withWord_len (w : Word) : (s.withWord w).len = s.len := rfl
@[simp] theorem State.withWord_ovf (w : Word) : (s.withWord w).ovf = s.ovf := rfl
@[simp] theorem State.withWord_busy (w : Word) : (s.withWord w).busy = false := rfl
@[simp] theorem State.withWord_done (w : Word) : (s.withWord w).done = s.done := rfl
@[simp] theorem State.withWord_err (w : Word) : (s.withWord w).err = s.err := rfl
@[simp] theorem State.withWord_errIdx (w : Word) : (s.withWord w).errIdx = s.errIdx := rfl
@[simp] theorem State.withWord_errCh (w : Word) : (s.withWord w).errCh = s.errCh := rfl
@[simp] theorem State.withWord_cfgErr (w : Word) : (s.withWord w).cfgErr = s.cfgErr := rfl
@[simp] theorem State.withWord_rpt (w : Word) : (s.withWord w).rpt = s.rpt := rfl
@[simp] theorem State.withWord_n (w : Word) : (s.withWord w).n = s.n := rfl
@[simp] theorem State.withWord_total (w : Word) : (s.withWord w).total = s.total := rfl
@[simp] theorem State.withWord_ctr (w : Word) : (s.withWord w).ctr = s.ctr := rfl
@[simp] theorem State.withWord_outbuf (w : Word) : (s.withWord w).outbuf = s.outbuf := rfl
@[simp] theorem State.withWord_stream (w : Word) : (s.withWord w).stream = s.stream := rfl
@[simp] theorem State.withWord_cmdQueue (w : Word) : (s.withWord w).cmdQueue = w :: s.cmdQueue := rfl
@[simp] theorem State.withWord_outside (w : Word) : (s.withWord w).outside = [] := rfl
@[simp] theorem State.withWord_outReady (w : Word) : (s.withWord w).outReady = s.outReady := rfl

/-! The lengths of R100 and R106 read only the configuration and `LEN`. -/

@[simp] theorem waveLen_raise (f : ErrCode) (idx : Word) (ch : Byte) : waveLen (s.raise f idx ch) = waveLen s := rfl
@[simp] theorem unitLen_raise (f : ErrCode) (idx : Word) (ch : Byte) : unitLen (s.raise f idx ch) = unitLen s := rfl
@[simp] theorem bufferLen_raise (f : ErrCode) (idx : Word) (ch : Byte) (q : Nat) : bufferLen (s.raise f idx ch) q = bufferLen s q := rfl
@[simp] theorem waveLen_succeed : waveLen (s.succeed) = waveLen s := rfl
@[simp] theorem unitLen_succeed : unitLen (s.succeed) = unitLen s := rfl
@[simp] theorem bufferLen_succeed (q : Nat) : bufferLen (s.succeed) q = bufferLen s q := rfl
@[simp] theorem waveLen_markOverflow : waveLen (s.markOverflow) = waveLen s := rfl
@[simp] theorem unitLen_markOverflow : unitLen (s.markOverflow) = unitLen s := rfl
@[simp] theorem bufferLen_markOverflow (q : Nat) : bufferLen (s.markOverflow) q = bufferLen s q := rfl
@[simp] theorem waveLen_freshBuffer : waveLen (s.freshBuffer) = waveLen s := rfl
@[simp] theorem unitLen_freshBuffer : unitLen (s.freshBuffer) = unitLen s := rfl
@[simp] theorem bufferLen_freshBuffer (q : Nat) : bufferLen (s.freshBuffer) q = bufferLen s q := rfl
@[simp] theorem waveLen_startRun (r t : Nat) : waveLen (s.startRun r t) = waveLen s := rfl
@[simp] theorem unitLen_startRun (r t : Nat) : unitLen (s.startRun r t) = unitLen s := rfl
@[simp] theorem bufferLen_startRun (r t : Nat) (q : Nat) : bufferLen (s.startRun r t) q = bufferLen s q := rfl
@[simp] theorem waveLen_emitted (v : Word) : waveLen (s.emitted v) = waveLen s := rfl
@[simp] theorem unitLen_emitted (v : Word) : unitLen (s.emitted v) = unitLen s := rfl
@[simp] theorem bufferLen_emitted (v : Word) (q : Nat) : bufferLen (s.emitted v) q = bufferLen s q := rfl
@[simp] theorem waveLen_completed : waveLen (s.completed) = waveLen s := rfl
@[simp] theorem unitLen_completed : unitLen (s.completed) = unitLen s := rfl
@[simp] theorem bufferLen_completed (q : Nat) : bufferLen (s.completed) q = bufferLen s q := rfl
@[simp] theorem waveLen_nextMove : waveLen (s.nextMove) = waveLen s := rfl
@[simp] theorem unitLen_nextMove : unitLen (s.nextMove) = unitLen s := rfl
@[simp] theorem bufferLen_nextMove (q : Nat) : bufferLen (s.nextMove) q = bufferLen s q := rfl
@[simp] theorem waveLen_takeWord : waveLen (s.takeWord) = waveLen s := rfl
@[simp] theorem unitLen_takeWord : unitLen (s.takeWord) = unitLen s := rfl
@[simp] theorem bufferLen_takeWord (q : Nat) : bufferLen (s.takeWord) q = bufferLen s q := rfl
@[simp] theorem waveLen_withWord (w : Word) : waveLen (s.withWord w) = waveLen s := rfl
@[simp] theorem unitLen_withWord (w : Word) : unitLen (s.withWord w) = unitLen s := rfl
@[simp] theorem bufferLen_withWord (w : Word) (q : Nat) : bufferLen (s.withWord w) q = bufferLen s q := rfl

end Sys2Proof.Machine
end

