-- ==== Sys2Proof/Laws/Ops.lean ====
section
/-! SUPPORT. For each shared operation, once, everything it can do: when it answers a next state, what that state is. -/

namespace Sys2Proof.Machine

/-- An accepted command in an idle, well-formed block has its effect. -/
theorem accept_idle (s : State) (effect : State → StepOutcome) (hc : s.cfg.wellFormed = true)
    (hb : s.busy = false) : accept s effect = effect s := by
  simp [accept, hc, hb]

/-- If a command answers a next state, the word waited, or its effect was had by an idle, well-formed block. -/
theorem accept_next {s t : State} {effect : State → StepOutcome} (h : accept s effect = .next t) :
    s.cfg.wellFormed = true ∧ ((s.busy = true ∧ t = s) ∨ (s.busy = false ∧ effect s = .next t)) := by
  unfold accept at h
  split at h
  · cases h
  · rename_i hc
    refine ⟨by simpa using hc, ?_⟩
    split at h
    · rename_i hb
      exact .inl ⟨hb, by simpa using h.symm⟩
    · rename_i hb
      exact .inr ⟨by simpa using hb, h⟩

/-- If `PUSHC` answers a next state, the character was stored or dropped. -/
theorem pushcEffect_next {s t : State} {ch : Byte} (h : pushcEffect ch s = .next t) :
    (s.len.toNat < s.cfg.maxBits ∧ t = (s.appendChar ch).succeed) ∨
      (s.cfg.maxBits ≤ s.len.toNat ∧
        t = s.markOverflow.raise .symbolOverflow (BitVec.ofNat 32 s.cfg.maxBits) ch) := by
  unfold pushcEffect at h
  split at h
  · rename_i hl
    exact .inl ⟨hl, by simpa using h.symm⟩
  · rename_i hl
    exact .inr ⟨by omega, by simpa using h.symm⟩

/-- If `ENC` answers a next state, it was rejected by the first check that applies, or a run began (R134). -/
theorem encEffect_next {s t : State} {a soft : Bool} (h : encEffect a soft s = .next t) :
    (s.cfgErr = true ∧ t = s.freshBuffer.raise .degenerateSymbolParameters 0 0) ∨
      (s.cfgErr = false ∧ s.ovf = true ∧ t = s.freshBuffer.raise .symbolOverflow 0 0) ∨
      (s.cfgErr = false ∧ s.ovf = false ∧ ∃ j c, firstBad s.sym s.len.toNat = .bad j c ∧
        t = s.freshBuffer.raise .malformedBitSequence (BitVec.ofNat 32 j) c) ∨
      (s.cfgErr = false ∧ s.ovf = false ∧ firstBad s.sym s.len.toNat = .clean ∧
        bufferLen s (repeats a soft) < 2 ^ 32 ∧
        t = s.freshBuffer.succeed.startRun (repeats a soft) (bufferLen s (repeats a soft))) := by
  simp only [encEffect, encChecked, beginRun, State.freshBuffer_cfgErr, State.freshBuffer_ovf,
    State.freshBuffer_sym, State.freshBuffer_len, bufferLen_freshBuffer] at h
  cases hc : s.cfgErr
  · cases ho : s.ovf
    · cases hb : firstBad s.sym s.len.toNat with
      | clean =>
        by_cases hl : bufferLen s (repeats a soft) < 2 ^ 32
        · simp only [hc, ho, hb, hl, Bool.false_eq_true, if_false, if_true, Host.Outcome.next.injEq] at h
          exact .inr (.inr (.inr ⟨rfl, rfl, rfl, hl, h.symm⟩))
        · simp only [hc, ho, hb, hl, Bool.false_eq_true, if_false] at h
          cases h
      | bad j c =>
        simp only [hc, ho, hb, Bool.false_eq_true, if_false, Host.Outcome.next.injEq] at h
        exact .inr (.inr (.inl ⟨rfl, rfl, j, c, rfl, h.symm⟩))
      | unwritten j => simp [hc, ho, hb] at h
    · simp only [hc, ho, Bool.false_eq_true, if_false, if_true, Host.Outcome.next.injEq] at h
      exact .inr (.inl ⟨rfl, rfl, h.symm⟩)
  · simp only [hc, if_true, Host.Outcome.next.injEq] at h
    exact .inl ⟨rfl, h.symm⟩

/-- A line bit is that of a character stored in the cell (R73). -/
theorem lineAt_ok {s : State} {i : Nat} {b : Bool} :
    lineAt s i = .ok b ↔ ∃ c, s.sym.read i = some c ∧ lineBit c = some b := by
  unfold lineAt
  cases hr : s.sym.read i with
  | none => simp
  | some c => cases hl : lineBit c <;> simp [hl]

/-- A sample of a symbol is the keyed carrier of the character's line bit (R89). -/
theorem symbolSample_ok {s : State} {i k : Nat} {v : Word} :
    symbolSample s i k = .ok v ↔ ∃ b, lineAt s i = .ok b ∧ key s.cfg b k = some v := by
  unfold symbolSample
  cases hl : lineAt s i with
  | error f => simp
  | ok b => cases hk : key s.cfg b k <;> simp [hk]

/-- If there is a sample at a position, it is a sample of a symbol or a pause sample (R107). -/
theorem sampleAt_ok {s : State} {n : Nat} {v : Word} (h : sampleAt s n = .ok v) :
    0 < unitLen s ∧
      ((n % unitLen s < waveLen s ∧
          symbolSample s (n % unitLen s / sps s.cfg) (n % unitLen s % sps s.cfg) = .ok v) ∨
        (waveLen s ≤ n % unitLen s ∧ v = silence)) := by
  unfold sampleAt at h
  split at h
  · cases h
  · rename_i hu
    refine ⟨by omega, ?_⟩
    unfold sampleInUnit at h
    split at h
    · rename_i hw
      exact .inl ⟨hw, h⟩
    · rename_i hw
      exact .inr ⟨by omega, by simpa using h.symm⟩

/-- If EMIT answers a next state, it has emitted `SampleAt(N)` (R121). -/
theorem emitStep_next {s t : State} (h : emitStep s = .next t) :
    ∃ v, sampleAt s s.n.toNat = .ok v ∧ t = s.nextMove.emitted v := by
  unfold emitStep at h
  split at h
  · rename_i v hv
    exact ⟨v, hv, by simpa using h.symm⟩
  · cases h

/-- If a step of a run answers a next state, it was an emission, a wait for the consumer, or completion. -/
theorem runStep_next {s t : State} (h : runStep s = .next t) :
    (s.n.toNat < s.total.toNat ∧ s.move = .accept ∧
        ∃ v, sampleAt s s.n.toNat = .ok v ∧ t = s.nextMove.emitted v) ∨
      (s.n.toNat < s.total.toNat ∧ s.move ≠ .accept ∧ t = s.nextMove) ∨
      (s.n.toNat = s.total.toNat ∧ t = s.nextMove.completed) := by
  unfold runStep at h
  split at h
  · rename_i hn
    split at h
    · rename_i hm
      exact .inl ⟨hn, hm, emitStep_next h⟩
    · rename_i hm
      exact .inr (.inl ⟨hn, hm, by simpa using h.symm⟩)
  · split at h
    · rename_i hn
      exact .inr (.inr ⟨hn, by simpa using h.symm⟩)
    · cases h

/-- If a step of an idle block answers a next state, it waited, or the word on the port was consumed by its command, or
as an illegal word. -/
theorem idleStep_next {s t : State} (h : idleStep s = .next t) :
    (s.cmdQueue = [] ∧ t = s.nextMove) ∨
      (∃ w ws i, s.cmdQueue = w :: ws ∧ decode w = .command i ∧ exec i s.nextMove.takeWord = .next t) ∨
      (∃ w ws why, s.cmdQueue = w :: ws ∧ decode w = .illegal why ∧ execIllegal s.nextMove.takeWord = .next t) := by
  unfold idleStep at h
  split at h
  · rename_i hq
    exact .inl ⟨hq, by simpa using h.symm⟩
  · rename_i w ws hq
    split at h
    · rename_i i hd
      exact .inr (.inl ⟨w, ws, i, hq, hd, h⟩)
    · rename_i why hd
      exact .inr (.inr ⟨w, ws, why, hq, hd, h⟩)

/-- Everything one step can do when it answers a next state, by the kind of step; Laws/Step.lean has it flat. -/
theorem step_next {s t : State} (h : step s = .next t) :
    s.cfg.wellFormed = true ∧
      ((s.move = .reset ∧ t = s.nextMove.afterReset) ∨
        (s.move ≠ .reset ∧ s.busy = true ∧ runStep s = .next t) ∨
        (s.move ≠ .reset ∧ s.busy = false ∧ idleStep s = .next t)) := by
  unfold step stepOf at h
  split at h
  · cases h
  · rename_i hc
    refine ⟨by simpa using hc, ?_⟩
    split at h
    · rename_i hm
      exact .inl ⟨hm, by simpa using h.symm⟩
    · rename_i hm
      split at h
      · rename_i hb
        exact .inr (.inl ⟨hm, hb, h⟩)
      · rename_i hb
        exact .inr (.inr ⟨hm, by simpa using hb, h⟩)

end Sys2Proof.Machine
end

