-- ==== Sys2Proof/Laws/PerInstr.lean ====
section
/-! SUPPORT. Statements about every command, made per constructor. -/

namespace Sys2Proof.Laws.MatchesOpcodeRow

open Sys2Proof Sys2Proof.Machine

/-- The word of a command is the command of its row of the opcode map: `(w AND mask) = match` (R56). -/
def Statement (i : Instr) : Prop :=
  encode i &&& rowMask i = rowMatch i

theorem clrb : Statement .clrb := by
  unfold Statement
  decide

theorem pushc (ch : Byte) : Statement (.pushc ch) := by
  unfold Statement encode rowMask rowMatch
  revert ch
  decide +kernel

theorem enc (a s : Bool) : Statement (.enc a s) := by
  revert a s
  unfold Statement
  decide

end Sys2Proof.Laws.MatchesOpcodeRow
end

