-- ==== Sys2Proof/Laws/Safety.lean ====
section
/-! SUPPORT. The outside world's moves one at a time: how the count of acceptances and the fairness of the consumer follow a
step (R42). -/

namespace Sys2Proof.Safety

open Sys2Proof.Machine

@[simp] theorem acceptsWithin_zero (s : State) : acceptsWithin s 0 = 0 := by
  simp [acceptsWithin]

/-- The next move, and then the moves of the state in which it is used up. -/
theorem acceptsWithin_succ (s : State) (m : Nat) :
    acceptsWithin s (m + 1) = (if s.move = .accept then 1 else 0) + acceptsWithin s.nextMove m := by
  cases h : s.outside with
  | nil => cases hr : s.outReady <;> simp [acceptsWithin, State.move, State.nextMove, h, hr] <;> omega
  | cons x xs => cases x <;> simp [acceptsWithin, State.move, State.nextMove, h] <;> omega

/-- A consumer that accepts `n + 1` samples accepts `n` after a move that accepts. -/
theorem EventuallyAccepts.next_accept {s : State} {n : Nat} (h : EventuallyAccepts s (n + 1)) (hm : s.move = .accept) :
    EventuallyAccepts s.nextMove n := by
  obtain ⟨hr, hc⟩ := h
  refine ⟨fun hmem => hr (List.mem_of_mem_tail hmem), hc.imp id fun hc => ?_⟩
  cases h : s.outside with
  | nil => simp [h] at hc
  | cons x xs => cases x <;> simp_all [State.move, State.nextMove]

/-- A stall takes no acceptance away. -/
theorem EventuallyAccepts.next_stall {s : State} {n : Nat} (h : EventuallyAccepts s n) (hm : s.move = .stall) :
    EventuallyAccepts s.nextMove n := by
  obtain ⟨hr, hc⟩ := h
  refine ⟨fun hmem => hr (List.mem_of_mem_tail hmem), hc.imp id fun hc => ?_⟩
  cases h : s.outside with
  | nil => simpa [State.nextMove, h] using hc
  | cons x xs => cases x <;> simp_all [State.move, State.nextMove]

end Sys2Proof.Safety
end

