-- ==== Sys2Proof/Laws/Step.lean ====
section
/-! SUPPORT. Everything one step can do, said once and flat: a proof about `step` is a case split on `StepCase`. -/

namespace Sys2Proof.Machine

/-- The state in which the word on the port has its effect: the outside world's move used up, the word taken. -/
abbrev State.taken (s : State) : State :=
  s.nextMove.takeWord

/-- The next states of a step, each with what makes it happen. -/
inductive StepCase (s : State) : State → Prop where
  | reset (hm : s.move = .reset) : StepCase s s.nextMove.afterReset
  | emit (hm : s.move = .accept) (hb : s.busy = true) (hn : s.n.toNat < s.total.toNat) (v : Word)
      (hv : sampleAt s s.n.toNat = .ok v) : StepCase s (s.nextMove.emitted v)
  | stall (hm : s.move = .stall) (hb : s.busy = true) (hn : s.n.toNat < s.total.toNat) : StepCase s s.nextMove
  | complete (hm : s.move ≠ .reset) (hb : s.busy = true) (hn : s.n.toNat = s.total.toNat) :
      StepCase s s.nextMove.completed
  | idle (hm : s.move ≠ .reset) (hb : s.busy = false) (hq : s.cmdQueue = []) : StepCase s s.nextMove
  | illegal (hm : s.move ≠ .reset) (hb : s.busy = false) (w : Word) (ws : List Word) (why : IllegalWord)
      (hq : s.cmdQueue = w :: ws) (hd : decode w = .illegal why) : StepCase s (s.taken.raise .illegalCommand 0 0)
  | clrb (hm : s.move ≠ .reset) (hb : s.busy = false) (w : Word) (ws : List Word)
      (hq : s.cmdQueue = w :: ws) (hd : decode w = .command .clrb) : StepCase s s.taken.emptyString.succeed
  | pushed (hm : s.move ≠ .reset) (hb : s.busy = false) (w : Word) (ws : List Word) (ch : Byte)
      (hq : s.cmdQueue = w :: ws) (hd : decode w = .command (.pushc ch)) (hl : s.len.toNat < s.cfg.maxBits) :
      StepCase s (s.taken.appendChar ch).succeed
  | dropped (hm : s.move ≠ .reset) (hb : s.busy = false) (w : Word) (ws : List Word) (ch : Byte)
      (hq : s.cmdQueue = w :: ws) (hd : decode w = .command (.pushc ch)) (hl : s.cfg.maxBits ≤ s.len.toNat) :
      StepCase s (s.taken.markOverflow.raise .symbolOverflow (BitVec.ofNat 32 s.cfg.maxBits) ch)
  | degenerate (hm : s.move ≠ .reset) (hb : s.busy = false) (w : Word) (ws : List Word) (a soft : Bool)
      (hq : s.cmdQueue = w :: ws) (hd : decode w = .command (.enc a soft)) (hc : s.cfgErr = true) :
      StepCase s (s.taken.freshBuffer.raise .degenerateSymbolParameters 0 0)
  | overflowed (hm : s.move ≠ .reset) (hb : s.busy = false) (w : Word) (ws : List Word) (a soft : Bool)
      (hq : s.cmdQueue = w :: ws) (hd : decode w = .command (.enc a soft)) (hc : s.cfgErr = false)
      (ho : s.ovf = true) : StepCase s (s.taken.freshBuffer.raise .symbolOverflow 0 0)
  | malformed (hm : s.move ≠ .reset) (hb : s.busy = false) (w : Word) (ws : List Word) (a soft : Bool)
      (hq : s.cmdQueue = w :: ws) (hd : decode w = .command (.enc a soft)) (hc : s.cfgErr = false)
      (ho : s.ovf = false) (j : Nat) (c : Byte) (hj : firstBad s.sym s.len.toNat = .bad j c) :
      StepCase s (s.taken.freshBuffer.raise .malformedBitSequence (BitVec.ofNat 32 j) c)
  | started (hm : s.move ≠ .reset) (hb : s.busy = false) (w : Word) (ws : List Word) (a soft : Bool)
      (hq : s.cmdQueue = w :: ws) (hd : decode w = .command (.enc a soft)) (hc : s.cfgErr = false)
      (ho : s.ovf = false) (hj : firstBad s.sym s.len.toNat = .clean)
      (hl : bufferLen s (repeats a soft) < 2 ^ 32) :
      StepCase s (s.taken.freshBuffer.succeed.startRun (repeats a soft) (bufferLen s (repeats a soft)))

/-- A step of an idle block that answers a next state, case by case. -/
theorem idleStep_cases {s t : State} (hm : s.move ≠ .reset) (hb : s.busy = false)
    (h : idleStep s = .next t) : StepCase s t := by
  rcases idleStep_next h with ⟨hq, rfl⟩ | ⟨w, ws, i, hq, hd, hx⟩ | ⟨w, ws, why, hq, hd, hx⟩
  · exact .idle hm hb hq
  · cases i with
    | clrb =>
      rcases (accept_next hx).2 with ⟨hbt, -⟩ | ⟨-, hx⟩
      · simp [hb] at hbt
      · obtain rfl := Host.Outcome.next.inj hx
        exact .clrb hm hb w ws hq hd
    | pushc ch =>
      rcases (accept_next hx).2 with ⟨hbt, -⟩ | ⟨-, hx⟩
      · simp [hb] at hbt
      · rcases pushcEffect_next hx with ⟨hl, rfl⟩ | ⟨hl, rfl⟩
        · exact .pushed hm hb w ws ch hq hd hl
        · exact .dropped hm hb w ws ch hq hd hl
    | enc a soft =>
      rcases (accept_next hx).2 with ⟨hbt, -⟩ | ⟨-, hx⟩
      · simp [hb] at hbt
      · rcases encEffect_next hx with ⟨hc, rfl⟩ | ⟨hc, ho, rfl⟩ | ⟨hc, ho, j, c, hj, rfl⟩ | ⟨hc, ho, hj, hl, rfl⟩
        · exact .degenerate hm hb w ws a soft hq hd hc
        · exact .overflowed hm hb w ws a soft hq hd hc ho
        · exact .malformed hm hb w ws a soft hq hd hc ho j c hj
        · exact .started hm hb w ws a soft hq hd hc ho hj hl
  · rcases (accept_next hx).2 with ⟨hbt, -⟩ | ⟨-, hx⟩
    · simp [hb] at hbt
    · obtain rfl := Host.Outcome.next.inj hx
      exact .illegal hm hb w ws why hq hd

/-- A step that answers a next state is one of the cases, in a well-formed configuration. -/
theorem step_cases {s t : State} (h : step s = .next t) : s.cfg.wellFormed = true ∧ StepCase s t := by
  obtain ⟨hc, hs⟩ := step_next h
  refine ⟨hc, ?_⟩
  rcases hs with ⟨hm, rfl⟩ | ⟨hm, hb, hr⟩ | ⟨hm, hb, hr⟩
  · exact .reset hm
  · rcases runStep_next hr with ⟨hn, ha, v, hv, rfl⟩ | ⟨hn, ha, rfl⟩ | ⟨hn, rfl⟩
    · exact .emit ha hb hn v hv
    · refine .stall ?_ hb hn
      cases hmv : s.move <;> simp_all
    · exact .complete hm hb hn
  · exact idleStep_cases hm hb hr

end Sys2Proof.Machine
end

