-- ==== Sys2Proof/Tests/Slice0.lean ====
section
/-! SUPPORT. Tests and witnesses. A `test_` theorem checks one step or one function on fixed values, the expected result
taken from the place of spec/ its comment names. A `witness_` theorem shows a concrete state and operands that meet all the
hypotheses of the statement it is named after. -/

namespace Sys2Proof.Tests

open Sys2Proof Sys2Proof.Machine Sys2Proof.Safety

/-! States. -/

/-- The state after reset in TOY (95_test_vectors.md section 0; R34). -/
def idle : State :=
  { State.reset with cfg := toy }

/-- The state after reset in DEGEN: `CFGERR = 1`. -/
def degenerate : State :=
  { State.reset with cfg := degen, cfgErr := true }

/-- A symbol memory that holds a string from cell 0 on. -/
def cells : Nat → List Byte → Memory
  | _, [] => []
  | a, c :: cs => (a, c) :: cells (a + 1) cs

/-- An idle TOY block that has loaded a string. -/
def loaded (cs : List Byte) : State :=
  { idle with sym := cells 0 cs, len := BitVec.ofNat 32 cs.length }

/-- TOY, four characters loaded and a fifth dropped: `LEN = MAXBITS`, `OVF = 1` (section 2.6). -/
def overflowed : State :=
  { loaded [0x30, 0x30, 0x30, 0x30] with ovf := true, err := .symbolOverflow, errIdx := 4, errCh := 0x31 }

/-- TOY in a run of `ENC A=0, S=0` on "01" (program P7) with `n` samples emitted. -/
def inRun (n : Nat) (x : Counters) : State :=
  { loaded [0x30, 0x31] with
    busy := true, rpt := 4, total := 40, n := BitVec.ofNat 32 n, ctr := x,
    outbuf := ((encodeBuffer toy [0x30, 0x31] false false).getD []).take (4 * n) }

/-- The run's first moment, a moment in a symbol of the second unit, one in its pause, before the last sample, and after. -/
def runFirst : State := inRun 0 ⟨0, .symbols, 0, 0, 0⟩
def runSymbol : State := inRun 13 ⟨1, .symbols, 0, 3, 0⟩
def runPause : State := inRun 18 ⟨1, .pause, 0, 0, 0⟩
def runLast : State := inRun 39 ⟨3, .pause, 0, 0, 1⟩
def runEnd : State := inRun 40 ⟨4, .symbols, 0, 0, 0⟩

/-- TOY with no pause, in the run of an empty string: `TOTAL = 0` (R122). -/
def emptyRun : State :=
  { idle with cfg := { toy with pause := 0 }, busy := true, rpt := 4 }

/-- A test of the next state, false for a stop. -/
def after (o : StepOutcome) (p : State → Bool) : Bool :=
  match o with
  | .next t => p t
  | _ => false

/-- Command words presented to a block. -/
def presenting (s : State) (ws : List Word) : State :=
  { s with cmdQueue := ws }

/-! WellFormed: an ill-formed term for each check, which the check refuses (R10, R32). -/

theorem test_command_wellFormed : Instr.wellFormed (.pushc 0x78) = true ∧ Instr.wellFormed (.enc true true) = true := by
  decide
theorem test_refuses_symRate_zero : Config.wellFormed { toy with symRate := 0, carrier := [0] } = false := by decide
theorem test_refuses_maxBits_zero : Config.wellFormed { toy with maxBits := 0 } = false := by decide
theorem test_refuses_amp_nan : Config.wellFormed { toy with amp := 0x7FC00000 } = false := by decide
theorem test_refuses_amp_infinite : Config.wellFormed { toy with amp := 0x7F800000 } = false := by decide
theorem test_refuses_amp_negative : Config.wellFormed { toy with amp := 0xBF800000 } = false := by decide
theorem test_refuses_amp_minus_zero : Config.wellFormed { toy with amp := 0x80000000 } = false := by decide
theorem test_accepts_amp_plus_zero : Config.wellFormed { toy with amp := 0, carrier := [0, 0, 0, 0] } = true := by decide
theorem test_refuses_minus_zero_without_amplitude :
    Config.wellFormed { toy with amp := 0, carrier := [0, 0x80000000, 0, 0] } = false := by decide
theorem test_refuses_first_entry_not_zero :
    Config.wellFormed { toy with carrier := [0x3F800000, 0x3F7C1C5C, 0x3EAF1D44, 0xBF5DB3D7] } = false := by decide
theorem test_refuses_entry_nan : Config.wellFormed { toy with carrier := [0, 0x7FC00000, 0, 0] } = false := by decide
theorem test_refuses_entry_above_amp : Config.wellFormed { toy with carrier := [0, 0, 0xBF800001, 0] } = false := by decide
theorem test_accepts_entry_at_amp : Config.wellFormed { toy with carrier := [0, 0, 0xBF800000, 0] } = true := by decide
theorem test_refuses_total_past_32_bits : Config.wellFormed { toy with pause := 214748349 } = false := by decide
theorem test_accepts_total_within_32_bits : Config.wellFormed { toy with pause := 214748348 } = true := by decide
theorem test_refuses_short_table : Config.wellFormed { toy with carrier := toy.carrier.dropLast } = false := by decide
theorem test_refuses_long_table : Config.wellFormed { toy with carrier := 0 :: toy.carrier } = false := by decide
theorem test_refuses_wide_field : Config.wellFormed { toy with fcHz := 2 ^ 32 } = false := by decide

/-! Decoding: words written from the formats of R55 (section 2.1). -/

theorem test_decode_clrb : decode 0b00000001000000000000000000000000#32 = .command .clrb := by decide
theorem test_decode_pushc : decode 0b00000010000000000000000001111000#32 = .command (.pushc 0x78) := by decide
theorem test_decode_pushc_bit_zero : decode 0b00000010000000000000000000000001#32 = .command (.pushc 1) := by decide
theorem test_decode_enc_kind : decode 0b00000011000000000000000100000000#32 = .command (.enc true false) := by decide
theorem test_decode_enc_soft : decode 0b00000011000000000000001000000000#32 = .command (.enc false true) := by decide
theorem test_decode_illegal_opcode :
    [0x00000000#32, 0x04000000#32, 0xFFFFFFFF#32].map decode = List.replicate 3 (.illegal .unknownOpcode) := by decide
theorem test_decode_reserved_bit :
    [0x01000001#32, 0x01800000#32, 0x02000100#32, 0x02010030#32, 0x03000001#32, 0x03000400#32, 0x03800000#32].map decode =
      List.replicate 7 (.illegal .reservedBitSet) := by decide
theorem test_encode : [encode .clrb, encode (.pushc 0x30), encode (.enc true true)] =
    [0x01000000#32, 0x02000030#32, 0x03000300#32] := by decide
theorem test_tableWord : decodeTableWord 32 0x03000100 = some (.enc true false) ∧ decodeTableWord 32 0 = none := by decide

/-! The commands and steps (section 2.6). -/

theorem test_clrb_clears_overflow :
    after (execClrb overflowed) (fun t => statusSW0 t == 0 && t.len == 0 && t.sym == overflowed.sym) = true := by decide
theorem test_pushc_stores :
    after (execPushc 0x78 (loaded [0x30])) (fun t =>
      statusSW0 t == 0 && t.len == 2 && t.sym == cells 0 [0x30, 0x78]) = true := by decide
theorem test_pushc_overflows :
    after (execPushc 0x31 (loaded [0x30, 0x30, 0x30, 0x30])) (fun t =>
      statusSW0 t == 0x00003144 && t.len == 4 && t.errIdx == 4 && t.sym.read 4 == none) = true := by decide
theorem test_enc_starts :
    after (execEnc false false (loaded [0x30, 0x31])) (fun t =>
      statusSW0 t == 1 && t.rpt == 4 && t.total == 40 && t.n == 0) = true := by decide
theorem test_enc_malformed :
    after (execEnc true true (loaded [0x30, 0x78, 0x31])) (fun t =>
      statusSW0 t == 0x00007810 && t.errIdx == 1 && t.total == 0) = true := by decide
theorem test_enc_overflow_mark :
    after (execEnc false false { overflowed with sym := cells 0 [0x78, 0x30, 0x30, 0x30] }) (fun t =>
      statusSW0 t == 0x00000044 && t.errIdx == 0) = true := by decide
theorem test_enc_degenerate :
    after (execEnc false false { degenerate with sym := cells 0 [0x78], len := 1 }) (fun t =>
      statusSW0 t == 0x00000028) = true := by decide
theorem test_enc_twenty_repeats :
    after (execEnc true true idle) (fun t => t.rpt == 20 && t.total == 40 && t.busy) = true := by decide
theorem test_illegal_word :
    after (step (presenting idle [0x03000400])) (fun t => statusSW0 t == 0x30 && t.cmdQueue == []) = true := by decide
theorem test_emit_carrier :
    after (step runSymbol) (fun t => t.n == 14 && t.outbuf.drop 52 == [0xD7, 0xB3, 0x5D, 0xBF] &&
      t.stream == [⟨0xBF5DB3D7, false⟩] && t.ctr == ⟨1, .symbols, 1, 0, 0⟩) = true := by decide
theorem test_emit_last :
    after (step runLast) (fun t => t.n == 40 && t.stream == [⟨0, true⟩] && t.ctr == ⟨4, .symbols, 0, 0, 0⟩) = true := by
  decide
theorem test_complete : after (step runEnd) (fun t => statusSW0 t == 2 && t.n == 40 && t.total == 40) = true := by decide
theorem test_complete_empty :
    after (step emptyRun) (fun t => statusSW0 t == 2 && t.stream == [] && t.outbuf == []) = true := by decide
theorem test_reset_in_run :
    after (step { runSymbol with outside := [.reset] }) (fun t =>
      t == { idle with stream := runSymbol.stream }) = true := by decide
theorem test_withFetchWord :
    after (step (State.reset.withFetchWord 32 0x02000041)) (fun t => t.len == 1 && t.sym == cells 0 [0x41]) = true := by
  decide +kernel

/-! The datapath (sections 2.2 to 2.5). -/

theorem test_sps : [sps dsrDefault, sps toy, sps toy2, sps degen] = [2417, 4, 4, 0] := by decide
theorem test_invert : invert [0x31, 0x31, 0x30, 0x31] = [0x30, 0x30, 0x31, 0x30] := by decide
theorem test_repeats : [repeats false false, repeats true false, repeats false true, repeats true true] = [4, 4, 4, 20] := by
  decide
/-- The conventions not taken would give another table (section 2.4). -/
theorem test_default_table :
    [0, 1, 417, 834, 1251, 2416].map (fun k => dsrDefault.carrier[k]?) =
      [some 0x00000000#32, some 0x3D29AB45#32, some 0xBF7FFFFF#32, some 0x3A491D7C#32, some 0x3F7FFFF5#32,
       some 0xBED2B203#32] := by decide +kernel
theorem test_rn32 :
    [rn32 0, rn32 1, rn32 (-1), rn32 (1 / 2), rn32 (1 + 1 / 2 ^ 24), rn32 (1 + 3 / 2 ^ 24), rn32 (1 + 1 / 2 ^ 24 + 1 / 2 ^ 60)] =
      [some 0x00000000#32, some 0x3F800000#32, some 0xBF800000#32, some 0x3F000000#32, some 0x3F800000#32,
       some 0x3F800002#32, some 0x3F800001#32] := by decide +kernel
/-- The table of R112, `LEN = 2` and `LEN = 256`. -/
theorem test_sizes :
    bufferLen { State.reset with len := 2 } 4 = 304936 ∧ bufferLen { State.reset with len := 256 } 20 = 13803040 := by decide
/-- SampleAt of section 2.5: the string "10" in DSR-DEFAULT, at a carrier sample, the last one, and in the third unit. -/
theorem test_sampleAt_default :
    [2418, 4833, 154886].map (fun n => (sampleAt { State.reset with sym := cells 0 [0x31, 0x30], len := 2 } n).toOption) =
      [some 0x3D29AB45, some 0xBED2B203, some 0x3D29AB45] := by decide +kernel
theorem test_serialise :
    serialise [0x3F800000, 0, 0xBED2B203] = [0, 0, 0x80, 0x3F, 0, 0, 0, 0, 0x03, 0xB2, 0xD2, 0xBE] := by decide
/-- The unit of program P8, whose table has a second exact zero. -/
theorem test_encode_buffer :
    ((encodeBuffer toy2 [0x30] true true).getD []).take 20 =
      [0, 0, 0, 0, 0xD7, 0xB3, 0xDD, 0x3E, 0xD7, 0xB3, 0xDD, 0x3E, 0, 0, 0, 0, 0, 0, 0, 0] := by decide
theorem test_send_words :
    wordsOf (send [0x31, 0x30] false false) = [0x01000000, 0x02000031, 0x02000030, 0x03000000] := by decide
theorem test_assembler_text : [assemblerText (.pushc 48), assemblerText (.enc true false)] = ["PUSHC 48", "ENC A=1, S=0"] := by
  decide

/-! Witnesses of the hypotheses of the statements. -/

/-- A memory whose first `j` cells read as valid characters. -/
theorem allValid_of {m : Memory} {j : Nat} (h : (List.range j).all (fun i => (m.read i).any valid) = true) :
    AllValidBelow m j := by
  intro i hi
  have hv := List.all_eq_true.mp h i (List.mem_range.mpr hi)
  obtain ⟨c, hc, hvc⟩ := (Option.any_eq_true _ _).mp hv
  exact ⟨c, hc, hvc⟩

theorem witness_DecodeInvertsEncode :
    (∀ i ∈ [Instr.clrb, .pushc 0xFF, .enc true true], i.wellFormed = true) ∧
      ∀ w ∈ [0x01000000#32, 0x020000FF#32, 0x03000300#32], ∃ i, decode w = .command i :=
  ⟨by decide, by
    intro w hw
    simp only [List.mem_cons, List.not_mem_nil, or_false] at hw
    rcases hw with rfl | rfl | rfl
    · exact ⟨.clrb, by decide⟩
    · exact ⟨.pushc 0xFF, by decide⟩
    · exact ⟨.enc true true, by decide⟩⟩

theorem witness_ClrbEmptiesTheString : Ready overflowed ∧ Ready idle := by
  exact ⟨⟨by decide, by decide⟩, ⟨by decide, by decide⟩⟩

/-- An empty string, one character below the capacity, and the capacity. -/
theorem witness_PushcStoresOrOverflows :
    (Ready idle ∧ idle.len.toNat < idle.cfg.maxBits) ∧
    (Ready (loaded [0x30, 0x31, 0x78]) ∧ (loaded [0x30, 0x31, 0x78]).len.toNat < toy.maxBits) ∧
    (Ready (loaded [0x30, 0x30, 0x30, 0x30]) ∧ toy.maxBits ≤ (loaded [0x30, 0x30, 0x30, 0x30]).len.toNat) := by
  unfold Ready
  decide

/-- Each clause: a degenerate block; an overflow mark; a malformed character first and last; the empty string, a string in
between and a full memory. -/
theorem witness_EncChecksThenStartsTheRun :
    (Ready degenerate ∧ degenerate.cfgErr = true) ∧
    (Ready overflowed ∧ overflowed.cfgErr = false ∧ overflowed.ovf = true) ∧
    (Ready (loaded [0x78]) ∧ (loaded [0x78]).sym.read 0 = some 0x78 ∧ valid 0x78 = false ∧
      AllValidBelow (loaded [0x78]).sym 0) ∧
    (Ready (loaded [0x30, 0x31, 0x30, 0x32]) ∧ (loaded [0x30, 0x31, 0x30, 0x32]).sym.read 3 = some 0x32 ∧
      valid 0x32 = false ∧ AllValidBelow (loaded [0x30, 0x31, 0x30, 0x32]).sym 3) ∧
    (∀ s ∈ [idle, loaded [0x30, 0x31], loaded [0x30, 0x31, 0x31, 0x30]], Ready s ∧ s.cfgErr = false ∧ s.ovf = false ∧
      AllValidBelow s.sym s.len.toNat ∧ s.len.toNat ≤ s.cfg.maxBits) := by
  refine ⟨⟨⟨by decide, by decide⟩, by decide⟩, ⟨⟨by decide, by decide⟩, by decide, by decide⟩,
    ⟨⟨by decide, by decide⟩, by decide, by decide, allValid_of (by decide)⟩,
    ⟨⟨by decide, by decide⟩, by decide, by decide, allValid_of (by decide)⟩, ?_⟩
  intro s hs
  simp only [List.mem_cons, List.not_mem_nil, or_false] at hs
  rcases hs with rfl | rfl | rfl <;>
    exact ⟨⟨by decide, by decide⟩, by decide, by decide, allValid_of (by decide), by decide⟩

/-- A well-formed configuration of which a string one longer than `MAXBITS` would pass 32 bits. -/
def wide : Config :=
  { toy with maxBits := 1, pause := 214748360 }

theorem witness_StopsByName :
    Config.wellFormed { toy with symRate := 0 } = false ∧
    (Ready { loaded [0x30] with len := 2 } ∧ ({ loaded [0x30] with len := 2 } : State).sym.read 1 = none ∧
      AllValidBelow (loaded [0x30]).sym 1) ∧
    (Ready { loaded [0x30, 0x30] with cfg := wide } ∧
      AllValidBelow (loaded [0x30, 0x30]).sym (loaded [0x30, 0x30]).len.toNat ∧
      2 ^ 32 ≤ bufferLen { loaded [0x30, 0x30] with cfg := wide } (repeats true true)) ∧
    (InRun { runEnd with total := 39 } ∧ ({ runEnd with total := 39 } : State).total.toNat < runEnd.n.toNat) ∧
    (InRun { emptyRun with total := 1 } ∧ emptyRun.move = .accept ∧ unitLen emptyRun = 0) ∧
    (∀ s ∈ [{ runFirst with sym := [] }, { inRun 17 ⟨1, .symbols, 1, 3, 0⟩ with sym := cells 0 [0x30] }],
      InRun s ∧ s.move = .accept ∧ s.n.toNat < s.total.toNat ∧ s.n.toNat % unitLen s < waveLen s ∧
      s.sym.read (s.n.toNat % unitLen s / sps s.cfg) = none) ∧
    (∀ s ∈ [{ runFirst with sym := cells 0 [0x78, 0x31] }, { inRun 17 ⟨1, .symbols, 1, 3, 0⟩ with sym := cells 0 [0x30, 0x32] }],
      InRun s ∧ s.move = .accept ∧ s.n.toNat < s.total.toNat ∧ s.n.toNat % unitLen s < waveLen s ∧
      (s.sym.read (s.n.toNat % unitLen s / sps s.cfg)).any (fun c => !valid c) = true) := by
  refine ⟨by decide, ⟨⟨by decide, by decide⟩, by decide, allValid_of (by decide)⟩,
    ⟨⟨by decide, by decide⟩, allValid_of (by decide), by decide⟩, ⟨⟨by decide, by decide, by decide⟩, by decide⟩,
    ⟨⟨by decide, by decide, by decide⟩, by decide, by decide⟩, ?_, ?_⟩ <;> unfold InRun <;> decide

theorem witness_WordsWaitDuringARun :
    runFirst.cfg.wellFormed = true ∧ runFirst.busy = true ∧ after (step (presenting runFirst [0])) (fun _ => true) = true := by
  decide

/-- A faulting `ENC`, and a faulting `PUSHC`. -/
theorem witness_FaultsArePrecise :
    Ready overflowed ∧ after (exec (.enc true true) overflowed) (fun t => t.err != .none) = true ∧
      after (exec (.pushc 0x30) overflowed) (fun t => t.err != .none) = true := by
  unfold Ready
  decide

theorem witness_OutcomeRecordIsOverwritten : Ready (loaded [0x30]) := by
  unfold Ready
  decide

theorem witness_OverflowMarkIsSticky :
    overflowed.ovf = true ∧ after (step (presenting overflowed [0x03000000])) (fun t => t.ovf) = true ∧
      after (step (presenting overflowed [0x01000000])) (fun t => !t.ovf) = true := by decide

theorem witness_BitStringPersists :
    after (step (presenting (loaded [0x30]) [0x02000031])) (fun t =>
      t.sym != (loaded [0x30]).sym && t.len != (loaded [0x30]).len) = true := by decide

theorem witness_StepRunsTheDecodedCommand :
    Presented (presenting idle [0x02000030, 0x03000000]) 0x02000030 ∧
      decode 0x02000030 = .command (.pushc 0x30) ∧ Instr.wellFormed (.pushc 0x30) = true := by
  unfold Presented Ready
  decide

theorem witness_IllegalWordIsConsumed :
    Presented (presenting runEnd.completed [0x01000001]) 0x01000001 ∧ decode 0x01000001 = .illegal .reservedBitSet := by
  unfold Presented Ready
  decide

theorem witness_WaitsKeepAllState :
    (Ready overflowed ∧ overflowed.move ≠ .reset ∧ overflowed.cmdQueue = []) ∧
    (InRun { runLast with outside := [.stall] } ∧ runLast.n.toNat < runLast.total.toNat ∧
      ({ runLast with outside := [.stall] } : State).move = .stall) := by
  unfold Ready InRun
  decide

/-- The first sample, one of a carrier symbol, and the last. -/
theorem witness_EmissionAppendsOneSample :
    (∀ s ∈ [runFirst, runSymbol, runLast], InRun s ∧ s.move = .accept ∧ s.n.toNat < s.total.toNat) ∧
      sampleAt runFirst 0 = .ok 0 ∧ sampleAt runSymbol 13 = .ok 0xBF5DB3D7 ∧ sampleAt runLast 39 = .ok 0 := by
  unfold InRun
  exact ⟨by decide, by rfl, by rfl, by rfl⟩

theorem witness_CompletionStep :
    (InRun runEnd ∧ runEnd.n.toNat = runEnd.total.toNat) ∧
    (InRun { emptyRun with outReady := false } ∧ emptyRun.n.toNat = emptyRun.total.toNat) := by
  unfold InRun
  decide

theorem witness_ResetStep :
    ∀ s ∈ [{ runSymbol with outside := [.reset] }, { degenerate with outside := [.reset] }],
      s.cfg.wellFormed = true ∧ s.move = .reset := by decide

/-- Each transfer: a run begins, ends by completion, ends by reset, and goes on. -/
theorem witness_ControlTransfers :
    (idle.busy = false ∧ after (step (presenting idle [0x03000000])) (fun t => t.busy) = true) ∧
    (runEnd.busy = true ∧ after (step runEnd) (fun t => !t.busy) = true) ∧
    after (step { runSymbol with outside := [.reset] }) (fun t => !t.busy) = true ∧
    after (step runLast) (fun t => t.busy && t.n == t.total) = true := by decide

/-- A reset of a state that is not good, with `N` past `TOTAL`. -/
theorem witness_ResetSatisfiesTheInvariants :
    ({ runEnd with total := 39, outside := [.reset] } : State).cfg.wellFormed = true ∧
      ({ runEnd with total := 39, outside := [.reset] } : State).move = .reset := by decide

theorem witness_StoppedConsumerHangsTheRun :
    runFirst.cfg.wellFormed = true ∧ runFirst.busy = true ∧ runFirst.n.toNat < runFirst.total.toNat ∧
      runFirst.outside = [] ∧ ({ runFirst with outReady := false } : State).outReady = false := by decide

/-- R36 in a running state of TOY on "01". -/
theorem inv_inRun {s : State} (hb : s = runFirst ∨ s = runSymbol ∨ s = runPause ∨ s = runLast ∨ s = runEnd) : Inv s := by
  rcases hb with rfl | rfl | rfl | rfl | rfl <;>
    exact {
      config := by decide, memory := by decide, cellsExist := by decide, lenLe := by decide, overflow := by decide,
      written := by decide, cfgErrIs := by decide,
      running := fun _ => {
        notDone := by decide, noError := by decide, notDegenerate := by decide, notOverflowed := by decide,
        counterLe := by decide, totalIs := by decide, repeatCount := by decide, charsValid := allValid_of (by decide) },
      bytes := fun _ => by decide +kernel, finished := by decide, repeatValues := by decide }

/-- The running states also have the invariants of R124 and R123, in a symbol, in the pause and at the end: for
`EveryStepKeepsTheInvariant`, `GoodStatesNeverStop`, `EveryStepKeepsTheCounters`, `CountersSelectTheSample`,
`EveryStepKeepsThePrefix` and `OutLastMarksTheLastSample`. -/
theorem witness_CountersAndPrefix :
    ∀ s ∈ [runFirst, runSymbol, runPause, runLast, runEnd],
      Inv s ∧ CountersOk s ∧ PrefixOk s ∧ s.busy = true ∧ after (step s) (fun _ => true) = true := by
  intro s hs
  simp only [List.mem_cons, List.not_mem_nil, or_false] at hs
  refine ⟨inv_inRun hs, ?_, ?_, ?_, ?_⟩
  · rcases hs with rfl | rfl | rfl | rfl | rfl
    · exact fun _ _ => ⟨fun _ => ⟨by decide, And.intro (by decide) (by decide), by decide⟩, by decide⟩
    · exact fun _ _ => ⟨fun _ => ⟨by decide, And.intro (by decide) (by decide), by decide⟩, by decide⟩
    · exact fun _ _ => ⟨fun _ => ⟨by decide, And.intro (by decide) (And.intro (by decide) (by decide)), by decide⟩, by decide⟩
    · exact fun _ _ => ⟨fun _ => ⟨by decide, And.intro (by decide) (And.intro (by decide) (by decide)), by decide⟩, by decide⟩
    · exact fun _ _ => ⟨fun h => absurd h (by decide), by decide⟩
  · rcases hs with rfl | rfl | rfl | rfl | rfl <;>
      exact fun _ => ⟨(encodeBuffer toy [0x30, 0x31] false false).getD [], by decide +kernel, by decide +kernel⟩
  · rcases hs with rfl | rfl | rfl | rfl | rfl <;> decide
  · rcases hs with rfl | rfl | rfl | rfl | rfl <;> decide

/-- An idle state with the invariants and a word on its port. -/
theorem witness_EveryStepKeepsTheInvariant :
    Inv (presenting overflowed [0x01000000]) ∧ after (step (presenting overflowed [0x01000000])) (fun _ => true) = true :=
  ⟨{ config := by decide, memory := by decide, cellsExist := by decide, lenLe := by decide, overflow := by decide,
     written := by decide, cfgErrIs := by decide, running := fun h => absurd h (by decide),
     bytes := by decide, finished := by decide, repeatValues := by decide }, by decide⟩

theorem witness_EveryStepKeepsMemoryCanonical :
    (loaded [0x30]).sym.wf = true ∧ after (step (presenting (loaded [0x30]) [0x02000031])) (fun t => t.len == 2) = true := by
  decide

theorem witness_NoStepWritesTheConfiguration :
    after (step { runSymbol with outside := [.reset] }) (fun t => t.cfg == toy) = true := by decide

/-- A step that appends, and one that empties. -/
theorem witness_OutputIsAppendOnly :
    after (step runSymbol) (fun t => t.outbuf.length == 56) = true ∧
      after (step (presenting runSymbol.completed [0x03000000])) (fun t => t.outbuf == []) = true := by decide

/-- The memories "01" and "01" followed by a stale cell agree below `LEN`. -/
theorem witness_StaleCellsDoNotMatter :
    (∀ i < runSymbol.len.toNat, Memory.read (cells 0 [0x30, 0x31, 0x78]) i = runSymbol.sym.read i) ∧
      after (step runSymbol) (fun _ => true) = true := by decide

/-- The first and the last position of the buffer. -/
theorem witness_SamplesAreTheFrame :
    runSymbol.cfg.wellFormed = true ∧ storedString runSymbol = some [0x30, 0x31] ∧
      [0x30#8, 0x31#8].mapM lineBit = some [true, false] ∧ bufferLen runSymbol 4 = 40 := by decide

/-- The empty string and a full memory, under a consumer that always accepts, one that stalls first, and one that accepts
exactly as often as the run needs, with stalls between, and never again. -/
theorem witness_RunProducesTheEncodedBuffer :
    (∀ bs ∈ [[], [0x30#8, 0x31#8, 0x31#8, 0x30#8]], Ready (loaded bs) ∧ (loaded bs).cfgErr = false ∧
      (loaded bs).ovf = false ∧ (loaded bs).len.toNat ≤ (loaded bs).cfg.maxBits ∧ storedString (loaded bs) = some bs ∧
      (∀ c ∈ bs, valid c = true)) ∧
    EventuallyAccepts (loaded [0x30]) (bufferLen (loaded [0x30]) 20) ∧
    EventuallyAccepts { loaded [0x30] with outside := [.stall, .stall] } (bufferLen (loaded [0x30]) 20) ∧
    EventuallyAccepts { idle with outside := (List.replicate 8 [.stall, .accept]).flatten, outReady := false }
      (bufferLen idle (repeats false false)) := by
  unfold Ready EventuallyAccepts
  decide

/-- Of stall, accept, stall and then acceptance for good, the moves at each length (R42). -/
theorem test_acceptsWithin :
    [0, 1, 2, 3, 4, 5].map (acceptsWithin { idle with outside := [.stall, .accept, .stall] }) = [0, 0, 1, 1, 2, 3] := by decide

theorem witness_EncodedLength :
    toy.wellFormed = true ∧ (encodeBuffer toy [0x30] false false).isSome = true ∧
      encodeBuffer toy [0x78] false false = none := by decide

/-- The empty string, and as many characters as fit. -/
theorem witness_LoadsStoresTheString :
    ∀ cs ∈ [[], [0x30#8, 0x78#8, 0x31#8, 0x30#8]],
      Ready (presenting overflowed (wordsOf (loads cs))) ∧ cs.length ≤ overflowed.cfg.maxBits ∧
      (presenting overflowed (wordsOf (loads cs))).outside = [] ∧
      (presenting overflowed (wordsOf (loads cs))).cmdQueue = wordsOf (loads cs) := by
  unfold Ready
  decide

theorem witness_FirstBadIsTheLeastIndex :
    firstBad (cells 0 [0x30, 0x78]) 2 = .bad 1 0x78 ∧ firstBad (cells 0 [0x30, 0x78]) 1 = .clean := by decide

theorem witness_InvertIsAnInvolution :
    (∀ c ∈ [0x30#8, 0x31#8], valid c = true) ∧ [0x30#8, 0x31#8][1]? = some 0x31#8 := by decide

theorem witness_LineBitsAreInvertedBits : valid 0x2F#8 = false ∧ valid 0x32#8 = false := by decide

/-- For `SpsRoundsToNearestEven` and `DegenerateExactlyAtHalf`: the least legal symbol rate, and a quotient of one half. -/
theorem witness_SpsAndDegenerate :
    1 ≤ ({ toy with symRate := 1 } : Config).symRate ∧ 1 ≤ degen.symRate ∧ sps degen = 0 := by decide

/-- For `TimeGridIncludesBothEnds` and `PhaseIsExactAccumulation`: two samples a symbol, the default, and one. -/
theorem witness_TimeGridAndPhase :
    sps { toy with fsHz := 6 } = 2 ∧ 2 ≤ sps dsrDefault ∧ sps { toy with fsHz := 3 } = 1 ∧ 1 ≤ dsrDefault.symRate := by
  decide

/-- A greatest and a least normal value, a greatest subnormal and a zero. -/
theorem witness_BinaryValueByFields :
    (isFinite32 0x7F7FFFFF#32 = true ∧ 1 ≤ expField 0x7F7FFFFF#32) ∧
    (isFinite32 0x00800000#32 = true ∧ 1 ≤ expField 0x00800000#32) ∧
    (isFinite32 0x007FFFFF#32 = true ∧ expField 0x007FFFFF#32 = 0) ∧
    (isFinite32 0x80000000#32 = true ∧ expField 0x80000000#32 = 0) := by decide

theorem witness_RationalRoundingIsCorrect : |(0 : ℚ)| < 2 ^ 128 ∧ |(-1 / 3 : ℚ)| < 2 ^ 128 := by
  norm_num [abs_lt]

/-- `+0.0` is the number 0 (R85). -/
theorem f32_zero : f32 0 = 0 := by
  rw [f32, show magnitude32 0 = 0 by decide]
  simp

/-- The real zero is rounded to the positive zero. -/
theorem isRN32_zero : IsRN32 0 0 := by
  have hz := f32_zero
  refine ⟨by decide, ?_, ?_, ?_⟩
  · intro q _
    rw [hz]
    simp
  · intro q _ hq h
    rw [hz] at h hq
    simp at h
    exact absurd h hq
  · intro _
    simp only [lt_irrefl, iff_false]
    decide

theorem witness_RoundingHasOneAnswer : IsRN32 0 0 ∧ IsRN32 0 0 :=
  ⟨isRN32_zero, isRN32_zero⟩

/-- The first carrier sample of DSR-DEFAULT, whose amplitude is legal. -/
theorem witness_CarrierSampleBounded : dsrDefault.ampLegal = true ∧ IsCarrierSample dsrDefault 0 0 := by
  refine ⟨by decide, ?_⟩
  have hp : phase dsrDefault 0 = 0 := by unfold phase sampleTime; simp
  simp only [IsCarrierSample, hp, Rat.cast_zero, mul_zero, Real.sin_zero]
  exact isRN32_zero

theorem witness_ZeroCarrierSamples : ({ toy with amp := 0 } : Config).amp = 0x00000000#32 := by decide

/-- A sample of a carrier symbol, the first sample of a symbol, a table with no amplitude, and a table that conforms. -/
theorem witness_SamplesStayInRange :
    (runSymbol.cfg.wellFormed = true ∧ (sampleAt runSymbol 13).toOption = some 0xBF5DB3D7) ∧
    ((sampleAt runSymbol 14).toOption = some 0 ∧ 14 % unitLen runSymbol < waveLen runSymbol ∧
      14 % unitLen runSymbol % sps toy = 0) ∧
    ({ toy with amp := 0, carrier := [0, 0, 0, 0] } : Config).wellFormed = true ∧
    ({ toy with fsHz := 3, carrier := [0] } : Config).ampLegal = true ∧ Conforms { toy with fsHz := 3, carrier := [0] } := by
  have hp : phase { toy with fsHz := 3, carrier := [0] } 0 = 0 := by unfold phase sampleTime; simp
  refine ⟨by decide, by decide, by decide, by decide, by decide, ?_, ?_, ?_⟩
  · simp
  · intro p hm
    obtain rfl := List.mem_singleton.mp hm
    refine ⟨by decide, ?_⟩
    rw [f32_zero, abs_zero, f32, show signBit toy.amp = false by decide]
    exact mul_nonneg (by simp) (div_nonneg (Nat.cast_nonneg _) (by norm_num))
  · intro k p hk
    cases k with
    | zero =>
      refine ⟨0, ?_, .inl (by simpa using hk.symm)⟩
      simp only [IsCarrierSample, hp, Rat.cast_zero, mul_zero, Real.sin_zero]
      exact isRN32_zero
    | succ k => simp at hk

theorem witness_SmallTableConforms : toy2.carrier[3]? = some 0x00000000#32 := by decide

/-- The first and the last sample of a waveform of two symbols. -/
theorem witness_WaveformSamples : toy.wellFormed = true ∧ 0 < [true, false].length * sps toy ∧
    7 < [true, false].length * sps toy := by decide

theorem witness_FrameIsEqualUnits : 3 < 4 ∧ 0 < [0#32].length ∧ [0#32].length ≤ 2 ∧ 2 < [0#32].length + 2 := by decide

theorem witness_SerialisedBytes : [0#32, 1#32][1]? = some 1#32 ∧ 3 < 4 := by decide

theorem witness_StatusCounters :
    runSymbol.busy = true ∧ runSymbol.move ≠ .reset ∧ after (step runSymbol) (fun t => t.n == 14) = true := by decide

theorem witness_StatusShowsTheConfiguration : toy.wellFormed = true ∧ State.reset.cfg.wellFormed = true :=
  ⟨toy_wellFormed, dsrDefault_wellFormed⟩

end Sys2Proof.Tests
end

section
/-! PROOF. Family 00_scope.md: the configuration is no state (O30), the model's own stops (O8), and a step of an idle block
as the command on its port (O14). First the facts about the operations, in the order of the model's definitions. -/

namespace Sys2Proof.Machine

/-! The carrier table (R39, R89). -/

/-- Below `SPS` the keyed carrier has a sample: a table of `SPS` entries (R10(e)) is read inside its bounds. -/
theorem key_ne_none {c : Config} (hc : c.wellFormed = true) (b : Bool) {k : Nat} (hk : k < sps c) :
    key c b k ≠ none := by
  obtain ⟨-, -, -, -, hlen, -⟩ := c.wellFormed_parts hc
  cases b
  · simp [key]
  · simpa [key, hlen] using hk

/-! The validation scan (R71). -/

theorem scanFrom_succ_of_valid {m : Memory} {j : Nat} {c : Byte} (hr : m.read j = some c) (hv : valid c = true)
    (count : Nat) : scanFrom m j (count + 1) = scanFrom m (j + 1) count := by
  simp [scanFrom, hr, hv]

theorem scanFrom_succ_of_unwritten {m : Memory} {j : Nat} (hr : m.read j = none) (count : Nat) :
    scanFrom m j (count + 1) = .unwritten j := by
  simp [scanFrom, hr]

/-- The scan passes over valid characters: with `d` of them lowest, it goes on from index `d`. -/
theorem firstBad_of_allValidBelow {m : Memory} {d : Nat} (hv : Safety.AllValidBelow m d) (count : Nat) :
    firstBad m (d + count) = scanFrom m d count := by
  induction d generalizing count with
  | zero => rw [Nat.zero_add, firstBad]
  | succ d ih =>
    obtain ⟨c, hr, hc⟩ := hv d (Nat.lt_succ_self d)
    have hbelow : Safety.AllValidBelow m d := fun i hi => hv i (Nat.lt_succ_of_lt hi)
    calc firstBad m (d + 1 + count) = firstBad m (d + (count + 1)) := by rw [Nat.add_right_comm, Nat.add_assoc]
      _ = scanFrom m d (count + 1) := ih hbelow (count + 1)
      _ = scanFrom m (d + 1) count := scanFrom_succ_of_valid hr hc count

theorem firstBad_clean_of_allValidBelow {m : Memory} {len : Nat} (hv : Safety.AllValidBelow m len) :
    firstBad m len = .clean :=
  firstBad_of_allValidBelow hv 0

theorem firstBad_unwritten {m : Memory} {j len : Nat} (hj : j < len) (hr : m.read j = none)
    (hv : Safety.AllValidBelow m j) : firstBad m len = .unwritten j := by
  obtain ⟨count, rfl⟩ := Nat.exists_eq_add_of_lt hj
  rw [Nat.add_assoc, firstBad_of_allValidBelow hv, scanFrom_succ_of_unwritten hr]

/-! The sample at a position (R107), where there is none. -/

theorem lineAt_of_unwritten {s : State} {i : Nat} (hr : s.sym.read i = none) :
    lineAt s i = .error .symbolCellUnwritten := by
  simp [lineAt, hr]

theorem lineBit_of_invalid {c : Byte} (hv : valid c = false) : lineBit c = none := by
  simp [lineBit, appBit, hv]

theorem lineAt_of_invalid {s : State} {i : Nat} {c : Byte} (hr : s.sym.read i = some c) (hv : valid c = false) :
    lineAt s i = .error .noLineBit := by
  simp [lineAt, hr, lineBit_of_invalid hv]

/-- A cell without a line bit is unwritten or holds a malformed character. -/
theorem lineAt_error {s : State} {i : Nat} {f : Fault} (h : lineAt s i = .error f) :
    f = .symbolCellUnwritten ∨ f = .noLineBit := by
  unfold lineAt at h
  split at h
  · exact .inl (Except.error.inj h).symm
  · split at h
    · exact .inr (Except.error.inj h).symm
    · cases h

theorem symbolSample_of_lineAt_error {s : State} {i : Nat} {f : Fault} (h : lineAt s i = .error f) (k : Nat) :
    symbolSample s i k = .error f := by
  simp [symbolSample, h]

/-- A symbol is short of a sample because its character has no line bit, or because the carrier table is too short. -/
theorem symbolSample_error {s : State} {i k : Nat} {f : Fault} (h : symbolSample s i k = .error f) :
    lineAt s i = .error f ∨ ∃ b, key s.cfg b k = none := by
  unfold symbolSample at h
  split at h
  next g hl => exact .inl (hl.trans (congrArg _ (Except.error.inj h)))
  next b hl =>
    split at h
    next hk => exact .inr ⟨b, hk⟩
    next => cases h

theorem sampleAt_of_unitLen_zero {s : State} (hu : unitLen s = 0) (n : Nat) :
    sampleAt s n = .error .positionOutsideBuffer :=
  if_pos hu

/-- In the waveform part of a unit the sample is one of a symbol. -/
theorem sampleAt_of_lt_waveLen {s : State} {n : Nat} (hw : n % unitLen s < waveLen s) :
    sampleAt s n = symbolSample s (n % unitLen s / sps s.cfg) (n % unitLen s % sps s.cfg) := by
  have hu : unitLen s ≠ 0 := by
    have : waveLen s ≤ unitLen s := Nat.le_add_right _ _
    omega
  rw [sampleAt, if_neg hu, sampleInUnit, if_pos hw]

/-- Where a unit has no sample or a character no line bit, there is none at a position; the carrier table never is the
reason, for the index into a symbol is a remainder by `SPS` (R107). -/
theorem sampleAt_error {s : State} {n : Nat} {f : Fault} (hc : s.cfg.wellFormed = true) (h : sampleAt s n = .error f) :
    f = .positionOutsideBuffer ∨ f = .symbolCellUnwritten ∨ f = .noLineBit := by
  unfold sampleAt at h
  split at h
  · exact .inl (Except.error.inj h).symm
  · unfold sampleInUnit at h
    split at h
    next hw =>
      have hsps : 0 < sps s.cfg := Nat.pos_of_mul_pos_left (Nat.zero_lt_of_lt hw)
      rcases symbolSample_error h with hl | ⟨b, hk⟩
      · exact .inr (lineAt_error hl)
      · exact absurd hk (key_ne_none hc b (Nat.mod_lt _ hsps))
    next => cases h

/-! The commands (R114 to R116, R119). -/

/-- What a command does once it is accepted. -/
def commandEffect : Instr → State → StepOutcome
  | .clrb => clrbEffect
  | .pushc ch => pushcEffect ch
  | .enc a soft => encEffect a soft

/-- Every command is an acceptance of its effect. -/
theorem exec_eq_accept (i : Instr) (s : State) : exec i s = accept s (commandEffect i) := by
  cases i <;> rfl

theorem exec_of_ready {s : State} (h : Safety.Ready s) (i : Instr) : exec i s = commandEffect i s := by
  obtain ⟨hc, hb⟩ := h
  rw [exec_eq_accept, accept_idle s _ hc hb]

theorem accept_illFormed {s : State} (h : s.cfg.wellFormed = false) (effect : State → StepOutcome) :
    accept s effect = .refused .illFormedConfiguration :=
  if_pos h

/-- An acceptance that faults does so in the effect of the command. -/
theorem accept_fault {s : State} {effect : State → StepOutcome} {f : Fault} (h : accept s effect = .fault f) :
    effect s = .fault f := by
  unfold accept at h
  split at h
  · cases h
  · split at h
    · cases h
    · exact h

/-- `ENC` past its first two checks, where the scan finds a cell nothing has written. -/
theorem encEffect_of_unwritten {s : State} {j : Nat} (a soft : Bool) (hc : s.cfgErr = false) (ho : s.ovf = false)
    (hb : firstBad s.sym s.len.toNat = .unwritten j) : encEffect a soft s = .fault .symbolCellUnwritten := by
  simp [encEffect, encChecked, hc, ho, hb]

/-- `ENC` past all its checks: it begins a run. -/
theorem encEffect_of_clean {s : State} (a soft : Bool) (hc : s.cfgErr = false) (ho : s.ovf = false)
    (hb : firstBad s.sym s.len.toNat = .clean) : encEffect a soft s = beginRun (repeats a soft) s.freshBuffer := by
  simp [encEffect, encChecked, hc, ho, hb]

theorem beginRun_overflow {s : State} {rpt : Nat} (h : 2 ^ 32 ≤ bufferLen s rpt) :
    beginRun rpt s = .refused .counterOverflow :=
  if_neg (Nat.not_lt.mpr h)

theorem beginRun_ne_fault (rpt : Nat) (s : State) (f : Fault) : beginRun rpt s ≠ .fault f := by
  unfold beginRun
  split <;> simp

/-- The checks of `ENC` stop with a fault only where the scan finds a cell nothing has written. -/
theorem encChecked_fault {a soft : Bool} {s : State} {f : Fault} (h : encChecked a soft s = .fault f) :
    f = .symbolCellUnwritten := by
  unfold encChecked at h
  split at h
  · cases h
  · split at h
    · cases h
    · split at h
      next => cases h
      next => exact (Host.Outcome.fault.inj h).symm
      next => exact absurd h (beginRun_ne_fault _ _ _)

/-- The one stop by fault of a command is that of the scan of `ENC`. -/
theorem commandEffect_fault {i : Instr} {s : State} {f : Fault} (h : commandEffect i s = .fault f) :
    f = .symbolCellUnwritten := by
  cases i with
  | clrb => cases h
  | pushc ch =>
    simp only [commandEffect, pushcEffect] at h
    split at h <;> cases h
  | enc a soft => exact encChecked_fault h

/-! The steps (R12, R119 to R122). -/

theorem step_illFormed {s : State} (h : s.cfg.wellFormed = false) : step s = .refused .illFormedConfiguration :=
  if_pos h

theorem step_of_inRun {s : State} (h : Safety.InRun s) : step s = runStep s := by
  obtain ⟨hc, hb, hm⟩ := h
  simp [step, stepOf, hc, hb, hm]

theorem step_of_ready {s : State} (h : Safety.Ready s) (hm : s.move ≠ .reset) : step s = idleStep s := by
  obtain ⟨hc, hb⟩ := h
  simp [step, stepOf, hc, hb, hm]

theorem idleStep_of_command {s : State} {w : Word} {i : Instr} (hq : s.cmdQueue.head? = some w)
    (hd : decode w = .command i) : idleStep s = exec i s.taken := by
  obtain ⟨ws, hq⟩ := List.head?_eq_some_iff.mp hq
  simp [idleStep, hq, hd]

theorem runStep_past_total {s : State} (h : s.total.toNat < s.n.toNat) : runStep s = .fault .counterPastTotal := by
  rw [runStep, if_neg (Nat.lt_asymm h), if_neg (Nat.ne_of_gt h)]

theorem runStep_of_sample_error {s : State} {f : Fault} (hm : s.move = .accept) (hn : s.n.toNat < s.total.toNat)
    (h : sampleAt s s.n.toNat = .error f) : runStep s = .fault f := by
  simp [runStep, emitStep, hm, hn, h]

/-- A step of a run faults where `N` has passed `TOTAL`, or where there is no sample to emit. -/
theorem runStep_fault {s : State} {f : Fault} (h : runStep s = .fault f) :
    f = .counterPastTotal ∨ sampleAt s s.n.toNat = .error f := by
  unfold runStep at h
  split at h
  · split at h
    · unfold emitStep at h
      split at h
      next => cases h
      next g hs => exact .inr (hs.trans (congrArg _ (Host.Outcome.fault.inj h)))
    · cases h
  · split at h
    · cases h
    · exact .inl (Host.Outcome.fault.inj h).symm

/-- A step of an idle block faults only in the scan of `ENC`. -/
theorem idleStep_fault {s : State} {f : Fault} (h : idleStep s = .fault f) : f = .symbolCellUnwritten := by
  unfold idleStep at h
  split at h
  · cases h
  · split at h
    · rw [exec_eq_accept] at h
      exact commandEffect_fault (accept_fault h)
    · cases accept_fault h

/-- Every fault a step can stop with; an index past the carrier table is none of them. -/
theorem step_fault {s : State} {f : Fault} (h : step s = .fault f) :
    f = .counterPastTotal ∨ f = .positionOutsideBuffer ∨ f = .symbolCellUnwritten ∨ f = .noLineBit := by
  unfold step stepOf at h
  split at h
  · cases h
  next hc =>
    split at h
    · cases h
    · split at h
      · exact (runStep_fault h).imp_right (sampleAt_error (by simpa using hc))
      · exact .inr (.inr (.inl (idleStep_fault h)))

/-- No step writes the configuration: each of the operations a step is made of leaves it (R6). -/
theorem StepCase.cfg_eq {s t : State} (h : StepCase s t) : t.cfg = s.cfg := by
  cases h <;> simp

end Sys2Proof.Machine

namespace Sys2Proof.Safety

open Sys2Proof.Machine

/-- Settles O30, by the cases of a step. -/
theorem noStepWritesTheConfiguration : Obligations.NoStepWritesTheConfiguration := by
  intro s t h
  obtain ⟨-, hcase⟩ := step_cases h
  exact hcase.cfg_eq

/-- The command `ENC` at a cell nothing has written, every cell below it valid. -/
theorem exec_enc_unwritten {s : State} {j : Nat} (a soft : Bool) (hs : Ready s) (hc : s.cfgErr = false)
    (ho : s.ovf = false) (hj : j < s.len.toNat) (hr : s.sym.read j = none) (hv : AllValidBelow s.sym j) :
    exec (.enc a soft) s = .fault .symbolCellUnwritten := by
  rw [exec_of_ready hs]
  exact encEffect_of_unwritten a soft hc ho (firstBad_unwritten hj hr hv)

/-- The command `ENC` on a valid string whose buffer would not fit the counters (R113). -/
theorem exec_enc_counterOverflow {s : State} (a soft : Bool) (hs : Ready s) (hc : s.cfgErr = false)
    (ho : s.ovf = false) (hv : AllValidBelow s.sym s.len.toNat) (hl : 2 ^ 32 ≤ bufferLen s (repeats a soft)) :
    exec (.enc a soft) s = .refused .counterOverflow := by
  rw [exec_of_ready hs]
  exact (encEffect_of_clean a soft hc ho (firstBad_clean_of_allValidBelow hv)).trans (beginRun_overflow hl)

/-- An emission with no sample to emit stops the step by the name of what is missing. -/
theorem step_of_sample_error {s : State} {f : Fault} (hs : InRun s) (hm : s.move = .accept)
    (hn : s.n.toNat < s.total.toNat) (h : sampleAt s s.n.toNat = .error f) : step s = .fault f := by
  rw [step_of_inRun hs, runStep_of_sample_error hm hn h]

/-- An emission in the waveform stops where the character of its symbol has no line bit. -/
theorem step_of_lineAt_error {s : State} {f : Fault} (hs : InRun s) (hm : s.move = .accept)
    (hn : s.n.toNat < s.total.toNat) (hw : s.n.toNat % unitLen s < waveLen s)
    (h : lineAt s (s.n.toNat % unitLen s / sps s.cfg) = .error f) : step s = .fault f :=
  step_of_sample_error hs hm hn ((sampleAt_of_lt_waveLen hw).trans (symbolSample_of_lineAt_error h _))

/-- Settles O8, clause by clause. -/
theorem stopsByName : Obligations.StopsByName := by
  refine ⟨fun s i hc => ⟨?_, step_illFormed hc⟩, ?_, ?_, ?_, ?_, ?_⟩
  · rw [exec_eq_accept, accept_illFormed hc]
  · intro s a soft j hs hc ho hj hr hv
    exact exec_enc_unwritten a soft hs hc ho hj hr hv
  · intro s a soft hs hc ho hv hl
    exact exec_enc_counterOverflow a soft hs hc ho hv hl
  · intro s hs hn
    rw [step_of_inRun hs, runStep_past_total hn]
  · intro s hs hm hn
    refine ⟨fun hu => step_of_sample_error hs hm hn (sampleAt_of_unitLen_zero hu _), fun hw => ⟨fun hr => ?_, ?_⟩⟩
    · exact step_of_lineAt_error hs hm hn hw (lineAt_of_unwritten hr)
    · intro c hr hv
      exact step_of_lineAt_error hs hm hn hw (lineAt_of_invalid hr hv)
  · intro s h
    rcases step_fault h with hf | hf | hf | hf <;> cases hf

/-- Settles O14: with a word presented, the step is the idle block's, and the idle block runs what the word decodes to. -/
theorem stepRunsTheDecodedCommand : Obligations.StepRunsTheDecodedCommand := by
  intro s w i hp hd _
  obtain ⟨hs, hm, hq⟩ := hp
  calc step s = idleStep s := step_of_ready hs hm
    _ = exec i s.taken := idleStep_of_command hq hd
    _ = exec i { s with cmdQueue := s.cmdQueue.tail, outside := s.outside.tail } := rfl

end Sys2Proof.Safety
end

section
/-! PROOF. Family 10_state.md: the invariants of R36 and what each step keeps of the state (O24, O12, O13, O29, O31), that
a good state always has a step (O25), what no step reads (O11, O33), the state after reset (O20, O23), and the status port
(O58 to O60). First the facts about the operations, in the order of the model's definitions. -/

namespace Sys2Proof.Machine

/-! The configuration (R10, R32). -/

/-- What the status words show of a well-formed configuration fits them (R32). -/
theorem wellFormed_fits {c : Config} (h : c.wellFormed = true) :
    sps c < 2 ^ 32 ∧ c.pause < 2 ^ 32 ∧ c.fcHz < 2 ^ 32 ∧
      c.fsHz < 2 ^ 32 ∧ c.symRate < 2 ^ 32 ∧ c.maxBits < 2 ^ 32 := by
  simp only [Config.wellFormed, Config.fitsStatusWords, Bool.and_eq_true, decide_eq_true_eq] at h
  obtain ⟨⟨-, ⟨⟨⟨⟨hsps, hpause⟩, hfc⟩, hfs⟩, hsym⟩, hmax⟩, -⟩ := h
  exact ⟨hsps, hpause, hfc, hfs, hsym, hmax⟩

/-! The counters as 32-bit words (R25). -/

theorem toNat_ofNat_of_lt {a : Nat} (h : a < 2 ^ 32) : (BitVec.ofNat 32 a : Word).toNat = a :=
  (BitVec.toNat_ofNat a 32).trans (Nat.mod_eq_of_lt h)

/-- A counter below another word does not wrap. -/
theorem toNat_succ_of_lt {a b : Word} (h : a.toNat < b.toNat) : (a + 1).toNat = a.toNat + 1 := by
  bv_omega

/-! The validation scan (R71). -/

theorem scanFrom_succ_of_invalid {m : Memory} {j : Nat} {c : Byte} (hr : m.read j = some c) (hv : valid c = false)
    (count : Nat) : scanFrom m j (count + 1) = .bad j c := by
  simp [scanFrom, hr, hv]

/-- A clean scan has found a valid character in each cell it covers. -/
theorem allValid_of_scanFrom_clean {m : Memory} {j count : Nat} (h : scanFrom m j count = .clean) :
    ∀ i, j ≤ i → i < j + count → ∃ c, m.read i = some c ∧ valid c = true := by
  induction count generalizing j with
  | zero => intro i hji hij; omega
  | succ count ih =>
    cases hr : m.read j with
    | none => simp [scanFrom_succ_of_unwritten hr] at h
    | some c =>
      cases hv : valid c with
      | false => simp [scanFrom_succ_of_invalid hr hv] at h
      | true =>
        intro i hji hij
        rcases Nat.eq_or_lt_of_le hji with rfl | hlt
        · exact ⟨c, hr, hv⟩
        · rw [scanFrom_succ_of_valid hr hv] at h
          exact ih h i hlt (by omega)

theorem allValidBelow_of_firstBad_clean {m : Memory} {len : Nat} (h : firstBad m len = .clean) :
    Safety.AllValidBelow m len :=
  fun i hi => allValid_of_scanFrom_clean h i (Nat.zero_le i) (by omega)

/-- A scan of written cells never stops at one without a value (R36(c)). -/
theorem scanFrom_ne_unwritten {m : Memory} {j count : Nat}
    (hw : ∀ i, j ≤ i → i < j + count → (m.read i).isSome = true) (d : Nat) : scanFrom m j count ≠ .unwritten d := by
  induction count generalizing j with
  | zero => simp [scanFrom]
  | succ count ih =>
    obtain ⟨c, hr⟩ := Option.isSome_iff_exists.mp (hw j (Nat.le_refl j) (by omega))
    cases hv : valid c with
    | false => simp [scanFrom_succ_of_invalid hr hv]
    | true =>
      rw [scanFrom_succ_of_valid hr hv]
      exact ih fun i hji hij => hw i (by omega) (by omega)

/-- The scan reads the cells it covers and no other (R125). -/
theorem scanFrom_congr {m m' : Memory} {j count : Nat} (h : ∀ i, j ≤ i → i < j + count → m.read i = m'.read i) :
    scanFrom m j count = scanFrom m' j count := by
  induction count generalizing j with
  | zero => rfl
  | succ count ih =>
    have hrest : scanFrom m (j + 1) count = scanFrom m' (j + 1) count :=
      ih fun i hji hij => h i (by omega) (by omega)
    simp only [scanFrom, h j (Nat.le_refl j) (by omega), hrest]

theorem firstBad_congr {m m' : Memory} {len : Nat} (h : ∀ i < len, m.read i = m'.read i) :
    firstBad m len = firstBad m' len :=
  scanFrom_congr fun i _ hi => h i (by omega)

/-! The lengths and the sample at a position (R100, R106, R107). -/

theorem repeats_eq (a soft : Bool) : repeats a soft = 4 ∨ repeats a soft = 20 := by
  unfold repeats
  split <;> simp

theorem repeats_le (a soft : Bool) : repeats a soft ≤ 20 := by
  rcases repeats_eq a soft with h | h <;> omega

/-- The buffer of a string that fits the memory fits the counters (R10(d)). -/
theorem bufferLen_lt {s : State} (hc : s.cfg.wellFormed = true) (hl : s.len.toNat ≤ s.cfg.maxBits) {q : Nat}
    (hq : q ≤ 20) : bufferLen s q < 2 ^ 32 := by
  obtain ⟨-, -, -, hfit, -, -⟩ := s.cfg.wellFormed_parts hc
  calc bufferLen s q ≤ 20 * (s.cfg.maxBits * sps s.cfg + s.cfg.pause) :=
        Nat.mul_le_mul hq (Nat.add_le_add_right (Nat.mul_le_mul_right _ hl) _)
    _ < 2 ^ 32 := hfit

/-- In the waveform part of a unit, the character index is below `LEN` and the carrier index below `SPS` (R107). -/
theorem symbol_index_lt {s : State} {u : Nat} (hu : u < waveLen s) :
    u / sps s.cfg < s.len.toNat ∧ u % sps s.cfg < sps s.cfg := by
  have hsps : 0 < sps s.cfg := Nat.pos_of_mul_pos_left (Nat.zero_lt_of_lt hu)
  exact ⟨(Nat.div_lt_iff_lt_mul hsps).mpr hu, Nat.mod_lt _ hsps⟩

/-- A cell with a valid character has a line bit (R68). -/
theorem lineAt_of_valid {s : State} {i : Nat} {c : Byte} (hr : s.sym.read i = some c) (hv : valid c = true) :
    ∃ b, lineAt s i = .ok b :=
  ⟨!c.getLsbD 0, lineAt_ok.mpr ⟨c, hr, by simp [lineBit, appBit, hv]⟩⟩

/-- In the pause part of a unit the sample is silence. -/
theorem sampleAt_of_waveLen_le {s : State} {n : Nat} (hu : 0 < unitLen s) (hw : waveLen s ≤ n % unitLen s) :
    sampleAt s n = .ok silence := by
  rw [sampleAt, if_neg (Nat.ne_of_gt hu), sampleInUnit, if_neg (Nat.not_lt.mpr hw)]

/-- Where a unit has a sample and every character of the string is valid, there is a sample at every position. -/
theorem sampleAt_of_allValid {s : State} (hc : s.cfg.wellFormed = true)
    (hv : Safety.AllValidBelow s.sym s.len.toNat) (hu : 0 < unitLen s) (n : Nat) : ∃ v, sampleAt s n = .ok v := by
  by_cases hw : n % unitLen s < waveLen s
  · obtain ⟨hi, hk⟩ := symbol_index_lt hw
    obtain ⟨c, hr, hcv⟩ := hv _ hi
    obtain ⟨b, hb⟩ := lineAt_of_valid hr hcv
    obtain ⟨v, hkey⟩ := Option.ne_none_iff_exists'.mp (key_ne_none hc b hk)
    exact ⟨v, (sampleAt_of_lt_waveLen hw).trans (symbolSample_ok.mpr ⟨b, hb, hkey⟩)⟩
  · exact ⟨silence, sampleAt_of_waveLen_le hu (Nat.not_lt.mp hw)⟩

/-- `s` with other contents of the symbol memory. -/
abbrev State.withSym (s : State) (m : Memory) : State :=
  { s with sym := m }

/-- The sample at an offset of a unit reads cells of `SYM` below `LEN` only (R36(c)). -/
theorem sampleInUnit_congr {s : State} {m : Memory} (h : ∀ i < s.len.toNat, m.read i = s.sym.read i) (u : Nat) :
    sampleInUnit (s.withSym m) u = sampleInUnit s u := by
  refine if_ctx_congr Iff.rfl (fun hw => ?_) fun _ => rfl
  simp only [symbolSample, lineAt, h _ (symbol_index_lt hw).1]

theorem sampleAt_congr {s : State} {m : Memory} (h : ∀ i < s.len.toNat, m.read i = s.sym.read i) (n : Nat) :
    sampleAt (s.withSym m) n = sampleAt s n :=
  if_ctx_congr Iff.rfl (fun _ => rfl) fun _ => sampleInUnit_congr h _

/-! The commands once accepted (R115, R116, R119). -/

theorem pushcEffect_of_room {s : State} (h : s.len.toNat < s.cfg.maxBits) (ch : Byte) :
    pushcEffect ch s = .next (s.appendChar ch).succeed :=
  if_pos h

theorem pushcEffect_of_full {s : State} (h : s.cfg.maxBits ≤ s.len.toNat) (ch : Byte) :
    pushcEffect ch s = .next (s.markOverflow.raise .symbolOverflow (BitVec.ofNat 32 s.cfg.maxBits) ch) :=
  if_neg (Nat.not_lt.mpr h)

theorem encEffect_of_degenerate {s : State} (a soft : Bool) (hc : s.cfgErr = true) :
    encEffect a soft s = .next (s.freshBuffer.raise .degenerateSymbolParameters 0 0) := by
  simp [encEffect, encChecked, hc]

theorem encEffect_of_overflowed {s : State} (a soft : Bool) (hc : s.cfgErr = false) (ho : s.ovf = true) :
    encEffect a soft s = .next (s.freshBuffer.raise .symbolOverflow 0 0) := by
  simp [encEffect, encChecked, hc, ho]

theorem encEffect_of_bad {s : State} {j : Nat} {c : Byte} (a soft : Bool) (hc : s.cfgErr = false) (ho : s.ovf = false)
    (hb : firstBad s.sym s.len.toNat = .bad j c) :
    encEffect a soft s = .next (s.freshBuffer.raise .malformedBitSequence (BitVec.ofNat 32 j) c) := by
  simp [encEffect, encChecked, hc, ho, hb]

theorem encEffect_of_valid {s : State} (a soft : Bool) (hc : s.cfgErr = false) (ho : s.ovf = false)
    (hb : firstBad s.sym s.len.toNat = .clean) (hl : bufferLen s (repeats a soft) < 2 ^ 32) :
    encEffect a soft s =
      .next (s.freshBuffer.succeed.startRun (repeats a soft) (bufferLen s (repeats a soft))) :=
  (encEffect_of_clean a soft hc ho hb).trans (if_pos hl)

/-- No command reads the outcome record, and every command writes it (R21, R33). -/
theorem commandEffect_raise (i : Instr) (s : State) (f : ErrCode) (idx : Word) (ch : Byte) :
    commandEffect i (s.raise f idx ch) = commandEffect i s := by
  cases i with
  | clrb => rfl
  | pushc c => rfl
  | enc a soft => rfl

/-! The steps (R119 to R122, R143, R144). -/

theorem step_of_reset {s : State} (hc : s.cfg.wellFormed = true) (hm : s.move = .reset) :
    step s = .next s.nextMove.afterReset := by
  simp [step, stepOf, hc, hm]

theorem runStep_of_sample {s : State} {v : Word} (hm : s.move = .accept) (hn : s.n.toNat < s.total.toNat)
    (hv : sampleAt s s.n.toNat = .ok v) : runStep s = .next (s.nextMove.emitted v) := by
  simp [runStep, emitStep, hm, hn, hv]

theorem runStep_of_stall {s : State} (hm : s.move = .stall) (hn : s.n.toNat < s.total.toNat) :
    runStep s = .next s.nextMove := by
  simp [runStep, hm, hn]

theorem runStep_of_total {s : State} (hn : s.n.toNat = s.total.toNat) : runStep s = .next s.nextMove.completed := by
  simp [runStep, hn]

theorem idleStep_of_no_word {s : State} (hq : s.cmdQueue = []) : idleStep s = .next s.nextMove := by
  simp [idleStep, hq]

theorem idleStep_of_illegal {s : State} {w : Word} {ws : List Word} {why : IllegalWord} (hq : s.cmdQueue = w :: ws)
    (hd : decode w = .illegal why) : idleStep s = execIllegal s.taken := by
  simp [idleStep, hq, hd]

/-- A command on the port of an idle block has its effect in the step that accepts it (R119). -/
theorem step_of_command {s : State} {w : Word} {ws : List Word} {i : Instr} (hs : Safety.Ready s) (hm : s.move ≠ .reset)
    (hq : s.cmdQueue = w :: ws) (hd : decode w = .command i) : step s = commandEffect i s.taken :=
  calc step s = idleStep s := step_of_ready hs hm
    _ = exec i s.taken := idleStep_of_command (hq ▸ rfl) hd
    _ = commandEffect i s.taken := exec_of_ready (s := s.taken) hs i

/-- Each case of a step is the step the machine takes: with `step_cases`, the cases are exactly the steps. -/
theorem StepCase.step_eq {s t : State} (hc : s.cfg.wellFormed = true) (h : StepCase s t) : step s = .next t := by
  cases h with
  | reset hm => exact step_of_reset hc hm
  | emit hm hb hn v hv =>
    exact (step_of_inRun ⟨hc, hb, by simp [hm]⟩).trans (runStep_of_sample hm hn hv)
  | stall hm hb hn => exact (step_of_inRun ⟨hc, hb, by simp [hm]⟩).trans (runStep_of_stall hm hn)
  | complete hm hb hn => exact (step_of_inRun ⟨hc, hb, hm⟩).trans (runStep_of_total hn)
  | idle hm hb hq => exact (step_of_ready ⟨hc, hb⟩ hm).trans (idleStep_of_no_word hq)
  | illegal hm hb w ws why hq hd =>
    calc step s = idleStep s := step_of_ready ⟨hc, hb⟩ hm
      _ = execIllegal s.taken := idleStep_of_illegal hq hd
      _ = .next (s.taken.raise .illegalCommand 0 0) := accept_idle s.taken _ hc hb
  | clrb hm hb w ws hq hd => exact step_of_command ⟨hc, hb⟩ hm hq hd
  | pushed hm hb w ws ch hq hd hl =>
    exact (step_of_command ⟨hc, hb⟩ hm hq hd).trans (pushcEffect_of_room (s := s.taken) hl ch)
  | dropped hm hb w ws ch hq hd hl =>
    exact (step_of_command ⟨hc, hb⟩ hm hq hd).trans (pushcEffect_of_full (s := s.taken) hl ch)
  | degenerate hm hb w ws a soft hq hd he =>
    exact (step_of_command ⟨hc, hb⟩ hm hq hd).trans (encEffect_of_degenerate a soft he)
  | overflowed hm hb w ws a soft hq hd he ho =>
    exact (step_of_command ⟨hc, hb⟩ hm hq hd).trans (encEffect_of_overflowed a soft he ho)
  | malformed hm hb w ws a soft hq hd he ho j c hj =>
    exact (step_of_command ⟨hc, hb⟩ hm hq hd).trans (encEffect_of_bad a soft he ho hj)
  | started hm hb w ws a soft hq hd he ho hj hl =>
    exact (step_of_command ⟨hc, hb⟩ hm hq hd).trans (encEffect_of_valid a soft he ho hj hl)

/-! What a step keeps of the overflow mark (R18, R152) and, in a run, of `N` (R31). -/

/-- The word at the head of the queue is the one on the port. -/
theorem head?_eq_of_queue {s : State} {w : Word} {ws : List Word} (hq : s.cmdQueue = w :: ws) :
    s.cmdQueue.head? = some w := by
  rw [hq, List.head?_cons]

/-- A step clears `OVF` only by reset or by `CLRB`. -/
theorem StepCase.ovf_kept {s t : State} (h : StepCase s t) (ho : s.ovf = true) :
    t.ovf = true ∨ s.move = .reset ∨
      (s.busy = false ∧ ∃ w, s.cmdQueue.head? = some w ∧ decode w = .command .clrb) := by
  cases h with
  | reset hm => exact .inr (.inl hm)
  | clrb _ hb w ws hq hd => exact .inr (.inr ⟨hb, w, head?_eq_of_queue hq, hd⟩)
  | dropped => exact .inl rfl
  | _ => exact .inl ho

/-- No run begins while `OVF` is set (R134): `ENC` begins one only past its check of `OVF`. -/
theorem StepCase.idle_kept {s t : State} (h : StepCase s t) (ho : s.ovf = true) (hb : s.busy = false) :
    t.busy = false := by
  cases h with
  | reset | complete => rfl
  | started _ _ _ _ _ _ _ _ _ ho' => exact nomatch ho.symm.trans ho'
  | _ => exact hb

/-- `N` does not decrease in a step of a run: it stays, or goes up by one below `TOTAL`. -/
theorem StepCase.n_le {s t : State} (h : StepCase s t) (hb : s.busy = true) (hm : s.move ≠ .reset) :
    s.n.toNat ≤ t.n.toNat := by
  cases h with
  | reset hr => exact absurd hr hm
  | emit _ _ hn => exact (toNat_succ_of_lt hn).symm ▸ Nat.le_succ _
  | started _ hi => exact nomatch hb.symm.trans hi
  | _ => exact Nat.le_refl _

/-! Cells at or above `LEN` (R34, R36(c), R125). -/

/-- Two memories that agree below an index agree below the next one once that cell is written in both. -/
theorem read_write_congr {m m' : Memory} {len : Nat} (h : ∀ i < len, m.read i = m'.read i) (c : Byte) :
    ∀ i < len + 1, (m.write len c).read i = (m'.write len c).read i := by
  intro i hi
  rcases Nat.lt_succ_iff_lt_or_eq.mp hi with hlt | rfl
  · rw [Memory.read_write_other _ _ _ _ (Nat.ne_of_lt hlt), Memory.read_write_other _ _ _ _ (Nat.ne_of_lt hlt), h i hlt]
  · rw [Memory.read_write_same, Memory.read_write_same]

/-- With another memory that agrees below `LEN`, the same case of a step applies, and the memories still agree. -/
theorem StepCase.of_agreeing_memory {s t : State} {m : Memory} (h : ∀ i < s.len.toNat, m.read i = s.sym.read i)
    (hs : StepCase s t) :
    ∃ m' : Memory, StepCase (s.withSym m) (t.withSym m') ∧ ∀ i < t.len.toNat, m'.read i = t.sym.read i := by
  have hscan : firstBad m s.len.toNat = firstBad s.sym s.len.toNat := firstBad_congr h
  cases hs with
  | reset hm => exact ⟨[], .reset hm, fun _ _ => rfl⟩
  | emit hm hb hn v hv => exact ⟨m, .emit (s := s.withSym m) hm hb hn v ((sampleAt_congr h _).trans hv), h⟩
  | stall hm hb hn => exact ⟨m, .stall hm hb hn, h⟩
  | complete hm hb hn => exact ⟨m, .complete hm hb hn, h⟩
  | idle hm hb hq => exact ⟨m, .idle hm hb hq, h⟩
  | illegal hm hb w ws why hq hd => exact ⟨m, .illegal hm hb w ws why hq hd, h⟩
  | clrb hm hb w ws hq hd => exact ⟨m, .clrb hm hb w ws hq hd, nofun⟩
  | pushed hm hb w ws ch hq hd hl =>
    have hlen : (s.len + 1).toNat ≤ s.len.toNat + 1 := by bv_omega
    exact ⟨m.write s.len.toNat ch, .pushed (s := s.withSym m) hm hb w ws ch hq hd hl,
      fun i hi => read_write_congr h ch i (Nat.lt_of_lt_of_le hi hlen)⟩
  | dropped hm hb w ws ch hq hd hl => exact ⟨m, .dropped (s := s.withSym m) hm hb w ws ch hq hd hl, h⟩
  | degenerate hm hb w ws a soft hq hd hc => exact ⟨m, .degenerate hm hb w ws a soft hq hd hc, h⟩
  | overflowed hm hb w ws a soft hq hd hc ho => exact ⟨m, .overflowed hm hb w ws a soft hq hd hc ho, h⟩
  | malformed hm hb w ws a soft hq hd hc ho j c hj =>
    exact ⟨m, .malformed (s := s.withSym m) hm hb w ws a soft hq hd hc ho j c (hscan.trans hj), h⟩
  | started hm hb w ws a soft hq hd hc ho hj hl =>
    exact ⟨m, .started (s := s.withSym m) hm hb w ws a soft hq hd hc ho (hscan.trans hj) hl, h⟩

end Sys2Proof.Machine

namespace Sys2Proof.Safety

open Sys2Proof.Machine

/-! R36, one operation at a time. -/

/-- The state after reset has the invariants, whatever the state before (R34, R144). -/
theorem inv_afterReset {s : State} (hc : s.cfg.wellFormed = true) : Inv s.afterReset where
  config := hc
  memory := rfl
  cellsExist := rfl
  lenLe := Nat.zero_le _
  overflow := nofun
  written := nofun
  cfgErrIs := rfl
  running := nofun
  bytes := nofun
  finished := nofun
  repeatValues := .inl rfl

/-- The outside world's move is no part of the invariants. -/
theorem Inv.nextMove {s : State} (h : Inv s) : Inv s.nextMove :=
  { h with running := fun hb => { h.running hb with } }

/-- The words presented are no part of the invariants. -/
theorem Inv.taken {s : State} (h : Inv s) : Inv s.taken :=
  { h.nextMove with running := fun hb => { h.nextMove.running hb with } }

theorem runOk_of_idle {s : State} (hb : s.busy = false) : s.busy = true → RunOk s :=
  fun h => absurd h (by simp [hb])

/-- Any outcome can be recorded in an idle block (R135). -/
theorem Inv.raise {s : State} (h : Inv s) (hb : s.busy = false) (f : ErrCode) (idx : Word) (ch : Byte) :
    Inv (s.raise f idx ch) :=
  { h with running := runOk_of_idle hb }

theorem Inv.succeed {s : State} (h : Inv s) (hb : s.busy = false) : Inv s.succeed :=
  h.raise hb .none 0 0

theorem Inv.emptyString {s : State} (h : Inv s) (hb : s.busy = false) : Inv s.emptyString :=
  { h with running := runOk_of_idle hb, lenLe := Nat.zero_le _, overflow := nofun, written := nofun }

theorem Inv.markOverflow {s : State} (h : Inv s) (hb : s.busy = false) (hl : s.cfg.maxBits ≤ s.len.toNat) :
    Inv s.markOverflow :=
  { h with running := runOk_of_idle hb, overflow := fun _ => Nat.le_antisymm h.lenLe hl }

theorem Inv.freshBuffer {s : State} (h : Inv s) (hb : s.busy = false) : Inv s.freshBuffer :=
  { h with running := runOk_of_idle hb, bytes := by simp [hb], finished := nofun }

/-- `LEN` below the capacity goes up by one. -/
theorem Inv.appendChar_len {s : State} (h : Inv s) (hl : s.len.toNat < s.cfg.maxBits) :
    (s.len + 1).toNat = s.len.toNat + 1 := by
  have hmax := (wellFormed_fits h.config).2.2.2.2.2
  bv_omega

theorem Inv.appendChar {s : State} (h : Inv s) (hb : s.busy = false) (hl : s.len.toNat < s.cfg.maxBits) (ch : Byte) :
    Inv (s.appendChar ch) :=
  { h with
    running := runOk_of_idle hb
    memory := Memory.wf_write _ _ _ h.memory
    cellsExist := Memory.within_write _ _ _ _ hl h.cellsExist
    lenLe := (h.appendChar_len hl).trans_le hl
    overflow := fun ho => absurd (h.overflow ho) (Nat.ne_of_lt hl)
    written := fun i hi => by
      rw [State.appendChar_len, h.appendChar_len hl] at hi
      rw [State.appendChar_sym]
      rcases Nat.lt_succ_iff_lt_or_eq.mp hi with hlt | rfl
      · rw [Memory.read_write_other _ _ _ _ (Nat.ne_of_lt hlt)]
        exact h.written i hlt
      · rw [Memory.read_write_same]
        rfl }

/-- The start of a run, once the checks of `ENC` have passed (R116). -/
theorem Inv.startRun {s : State} (h : Inv s) (hb : s.busy = false) (hc : s.cfgErr = false) (ho : s.ovf = false)
    (hv : AllValidBelow s.sym s.len.toNat) (a soft : Bool) :
    Inv (s.freshBuffer.succeed.startRun (repeats a soft) (bufferLen s (repeats a soft))) :=
  have hrpt : BitVec.ofNat 32 (repeats a soft) = 4 ∨ BitVec.ofNat 32 (repeats a soft) = 20 :=
    (repeats_eq a soft).imp (fun h => congrArg _ h) fun h => congrArg _ h
  { (h.freshBuffer hb).succeed hb with
    running := fun _ =>
      { notDone := rfl
        noError := rfl
        notDegenerate := hc
        notOverflowed := ho
        counterLe := Nat.zero_le _
        totalIs := by
          have hq := repeats_le a soft
          rw [State.startRun_total, State.startRun_rpt, toNat_ofNat_of_lt (bufferLen_lt h.config h.lenLe hq),
            toNat_ofNat_of_lt (by omega)]
          rfl
        repeatCount := hrpt
        charsValid := hv }
    bytes := fun _ => rfl
    finished := nofun
    repeatValues := .inr hrpt }

theorem le_length (v : Word) : (le v).length = 4 := rfl

/-- An emission of a run that is not yet at its end (R121). -/
theorem Inv.emitted {s : State} (h : Inv s) (hb : s.busy = true) (hn : s.n.toNat < s.total.toNat) (v : Word) :
    Inv (s.emitted v) :=
  have hn1 : (s.n + 1).toNat = s.n.toNat + 1 := toNat_succ_of_lt hn
  have hrun := h.running hb
  { h with
    running := fun _ => { hrun with counterLe := hn1.trans_le hn }
    bytes := fun _ => by
      rw [State.emitted_outbuf, State.emitted_n, List.length_append, h.bytes (.inl hb), le_length, hn1, Nat.mul_succ]
    finished := fun hd => nomatch hrun.notDone.symm.trans hd }

/-- Completion of a run whose samples are all emitted (R122). -/
theorem Inv.completed {s : State} (h : Inv s) (hb : s.busy = true) (hn : s.n.toNat = s.total.toNat) :
    Inv s.completed :=
  { h with
    running := nofun
    bytes := fun _ => h.bytes (.inl hb)
    finished := fun _ => ⟨rfl, BitVec.eq_of_toNat_eq hn⟩ }

/-- Every case of a step keeps the invariants of R36. -/
theorem Inv.of_stepCase {s t : State} (h : Inv s) (hs : StepCase s t) : Inv t := by
  cases hs with
  | reset => exact inv_afterReset h.nextMove.config
  | emit _ hb hn v => exact h.nextMove.emitted hb hn v
  | stall => exact h.nextMove
  | complete _ hb hn => exact h.nextMove.completed hb hn
  | idle => exact h.nextMove
  | illegal _ hb => exact h.taken.raise hb _ _ _
  | clrb _ hb => exact (h.taken.emptyString hb).succeed hb
  | pushed _ hb w ws ch _ _ hl => exact (h.taken.appendChar hb hl ch).succeed hb
  | dropped _ hb w ws ch _ _ hl => exact (h.taken.markOverflow hb hl).raise hb _ _ _
  | degenerate _ hb => exact (h.taken.freshBuffer hb).raise hb _ _ _
  | overflowed _ hb => exact (h.taken.freshBuffer hb).raise hb _ _ _
  | malformed _ hb => exact (h.taken.freshBuffer hb).raise hb _ _ _
  | started _ hb w ws a soft _ _ hc ho hj _ =>
    exact h.taken.startRun hb hc ho (allValidBelow_of_firstBad_clean hj) a soft

/-- Settles O24, by the cases of a step. -/
theorem everyStepKeepsTheInvariant : Obligations.EveryStepKeepsTheInvariant := by
  intro s t h hs
  obtain ⟨-, hcase⟩ := step_cases hs
  exact h.of_stepCase hcase

/-! R121, R129: from a state with the invariants there is always a step. -/

/-- A run with the invariants has a sample for every position it has not emitted (R121). -/
theorem RunOk.sampleAt_n {s : State} (h : RunOk s) (hc : s.cfg.wellFormed = true) (hn : s.n.toNat < s.total.toNat) :
    ∃ v, sampleAt s s.n.toNat = .ok v := by
  have htotal : 0 < s.rpt.toNat * unitLen s := by
    have := h.totalIs
    rw [bufferLen] at this
    omega
  exact sampleAt_of_allValid hc h.charsValid (Nat.pos_of_mul_pos_left htotal) _

/-- `N` has not passed `TOTAL`, and where it is below there is a sample, so a run always has a step. -/
theorem Inv.exists_stepCase_of_busy {s : State} (h : Inv s) (hm : s.move ≠ .reset) (hb : s.busy = true) :
    ∃ t, StepCase s t := by
  have hrun := h.running hb
  rcases Nat.lt_or_eq_of_le hrun.counterLe with hn | hn
  · cases hmv : s.move with
    | accept =>
      obtain ⟨v, hv⟩ := hrun.sampleAt_n h.config hn
      exact ⟨_, .emit hmv hb hn v hv⟩
    | stall => exact ⟨_, .stall hmv hb hn⟩
    | reset => exact absurd hmv hm
  · exact ⟨_, .complete hm hb hn⟩

/-- `ENC` is rejected or begins a run: its scan meets written cells only (R36(c)), and `TOTAL` fits (R10(d)). -/
theorem Inv.exists_stepCase_of_enc {s : State} (h : Inv s) (hm : s.move ≠ .reset) (hb : s.busy = false) {w : Word}
    {ws : List Word} {a soft : Bool} (hq : s.cmdQueue = w :: ws) (hd : decode w = .command (.enc a soft)) :
    ∃ t, StepCase s t := by
  cases hc : s.cfgErr with
  | true => exact ⟨_, .degenerate hm hb w ws a soft hq hd hc⟩
  | false =>
    cases ho : s.ovf with
    | true => exact ⟨_, .overflowed hm hb w ws a soft hq hd hc ho⟩
    | false =>
      cases hj : firstBad s.sym s.len.toNat with
      | bad j c => exact ⟨_, .malformed hm hb w ws a soft hq hd hc ho j c hj⟩
      | unwritten j => exact absurd hj (scanFrom_ne_unwritten (fun i _ hi => h.written i (by omega)) j)
      | clean => exact ⟨_, .started hm hb w ws a soft hq hd hc ho hj (bufferLen_lt h.config h.lenLe (repeats_le a soft))⟩

theorem Inv.exists_stepCase_of_idle {s : State} (h : Inv s) (hm : s.move ≠ .reset) (hb : s.busy = false) :
    ∃ t, StepCase s t := by
  cases hq : s.cmdQueue with
  | nil => exact ⟨_, .idle hm hb hq⟩
  | cons w ws =>
    cases hd : decode w with
    | illegal why => exact ⟨_, .illegal hm hb w ws why hq hd⟩
    | command i =>
      cases i with
      | clrb => exact ⟨_, .clrb hm hb w ws hq hd⟩
      | pushc ch =>
        rcases Nat.lt_or_ge s.len.toNat s.cfg.maxBits with hl | hl
        · exact ⟨_, .pushed hm hb w ws ch hq hd hl⟩
        · exact ⟨_, .dropped hm hb w ws ch hq hd hl⟩
      | enc a soft => exact h.exists_stepCase_of_enc hm hb hq hd

/-- Settles O25: reset, the run and the idle block each have a case of a step, and each case is a step. -/
theorem goodStatesNeverStop : Obligations.GoodStatesNeverStop := by
  intro s h
  have hcase : ∃ t, StepCase s t := by
    by_cases hm : s.move = .reset
    · exact ⟨_, .reset hm⟩
    · cases hb : s.busy with
      | true => exact h.exists_stepCase_of_busy hm hb
      | false => exact h.exists_stepCase_of_idle hm hb
  exact hcase.imp fun _ hs => hs.step_eq h.config

/-- Settles O12. -/
theorem overflowMarkIsSticky : Obligations.OverflowMarkIsSticky := by
  intro s t ho h
  obtain ⟨-, hcase⟩ := step_cases h
  exact ⟨hcase.ovf_kept ho, hcase.idle_kept ho⟩

/-- Settles O13: each case of a step but reset, `CLRB` and a stored `PUSHC` leaves `SYM` and `LEN`. -/
theorem bitStringPersists : Obligations.BitStringPersists := by
  intro s t h hne
  obtain ⟨-, hcase⟩ := step_cases h
  cases hcase with
  | reset hm => exact .inl hm
  | clrb _ hb w ws hq hd => exact .inr ⟨hb, w, head?_eq_of_queue hq, .inl hd⟩
  | pushed _ hb w ws ch hq hd => exact .inr ⟨hb, w, head?_eq_of_queue hq, .inr ⟨ch, hd⟩⟩
  | _ => exact absurd hne (by simp)

/-- Settles O29: `SYM` is written by `PUSHC` alone, in canonical form, and emptied by reset alone. -/
theorem everyStepKeepsMemoryCanonical : Obligations.EveryStepKeepsMemoryCanonical := by
  refine ⟨rfl, fun s t hw h => ?_⟩
  obtain ⟨-, hcase⟩ := step_cases h
  cases hcase with
  | reset => rfl
  | pushed => exact Memory.wf_write _ _ _ hw
  | _ => exact hw

/-! The output (R28, R40). -/

/-- Settles O31: an emission appends, reset and an accepted `ENC` empty, and every other case leaves `OUTBUF`. -/
theorem outputIsAppendOnly : Obligations.OutputIsAppendOnly := by
  intro s t h
  obtain ⟨-, hcase⟩ := step_cases h
  cases hcase with
  | reset hm => exact .inr (.inr ⟨rfl, rfl, .inl hm⟩)
  | emit _ hb _ v => exact .inr (.inl ⟨hb, rfl, v, outLast s, rfl, rfl⟩)
  | degenerate _ hb w ws a soft hq hd | overflowed _ hb w ws a soft hq hd | malformed _ hb w ws a soft hq hd
  | started _ hb w ws a soft hq hd =>
    exact .inr (.inr ⟨rfl, rfl, .inr ⟨hb, w, a, soft, head?_eq_of_queue hq, hd⟩⟩)
  | _ => exact .inl ⟨rfl, rfl⟩

/-- Settles O33. -/
theorem staleCellsDoNotMatter : Obligations.StaleCellsDoNotMatter := by
  intro s t m h hs
  obtain ⟨hc, hcase⟩ := step_cases hs
  obtain ⟨m', hcase', hagree⟩ := hcase.of_agreeing_memory h
  exact ⟨m', hcase'.step_eq hc, hagree⟩

/-! The outcome record (R21, R33, R151). -/

/-- Settles O11: replacing the record is a `raise`, which changes no command. -/
theorem outcomeRecordIsOverwritten : Obligations.OutcomeRecordIsOverwritten := by
  intro s i f idx ch hs
  calc exec i (s.raise f idx ch) = commandEffect i (s.raise f idx ch) := exec_of_ready (s := s.raise f idx ch) hs i
    _ = commandEffect i s := commandEffect_raise i s f idx ch
    _ = exec i s := (exec_of_ready hs i).symm

/-! Reset (R34, R144, R145). -/

/-- The state after reset in DSR-DEFAULT is one that a reset leaves as it is. -/
theorem afterReset_reset : State.reset.afterReset = State.reset := rfl

/-- Settles O20: the fields as R34 gives them, and the wait of an idle block with no word. -/
theorem stateAfterReset : Obligations.StateAfterReset := by
  have hstep : step State.reset = .next State.reset :=
    calc step State.reset = idleStep State.reset := step_of_ready ⟨dsrDefault_wellFormed, rfl⟩ nofun
      _ = .next State.reset.nextMove := idleStep_of_no_word rfl
      _ = .next State.reset := rfl
  have hcfg : State.reset.cfgErr = false := by decide
  exact ⟨rfl, rfl, rfl, rfl, rfl, rfl, rfl, hcfg, rfl, rfl, rfl, rfl, rfl, by decide, hstep⟩

/-- The state after reset has the invariants of R36, and, being idle, those of a run (R124, R123). -/
theorem afterReset_good {s : State} (hc : s.cfg.wellFormed = true) :
    Inv s.afterReset ∧ CountersOk s.afterReset ∧ PrefixOk s.afterReset :=
  ⟨inv_afterReset hc, nofun, nofun⟩

/-- Settles O23. -/
theorem resetSatisfiesTheInvariants : Obligations.ResetSatisfiesTheInvariants :=
  ⟨afterReset_reset ▸ afterReset_good (s := State.reset) dsrDefault_wellFormed, fun s hc hm =>
    ⟨_, step_of_reset hc hm, afterReset_good (s := s.nextMove) hc⟩⟩

/-! The status port (R30 to R32). -/

/-- Settles O59. -/
theorem statusCounters : Obligations.StatusCounters := by
  refine ⟨fun s => ⟨rfl, rfl, rfl, rfl, rfl⟩, fun s t hb hm h => ?_⟩
  obtain ⟨-, hcase⟩ := step_cases h
  exact hcase.n_le hb hm

/-- The bits of `SW0` that stand alone, each found by passing the parts below it (R30). -/
theorem statusSW0_flags (s : State) :
    (statusSW0 s).getLsbD 0 = s.busy ∧ (statusSW0 s).getLsbD 1 = s.done ∧ (statusSW0 s).getLsbD 2 = s.ovf ∧
      (statusSW0 s).getLsbD 3 = s.cfgErr ∧ (statusSW0 s).getLsbD 7 = false := by
  rw [statusSW0]
  refine ⟨?_, ?_, ?_, ?_, ?_⟩ <;> (repeat rw [BitVec.getLsbD_append]) <;> simp

/-- The fields of `SW0`: each begins where the parts below it end (R30). -/
theorem statusSW0_fields (s : State) :
    (statusSW0 s).extractLsb' 4 3 = s.err.code ∧ (statusSW0 s).extractLsb' 8 8 = s.errCh ∧
      (statusSW0 s).extractLsb' 16 16 = 0 := by
  rw [statusSW0]
  refine ⟨?_, ?_, ?_⟩ <;> (repeat rw [BitVec.extractLsb'_append_eq_of_le (by decide)])
  · exact BitVec.extractLsb'_append_eq_right
  · exact BitVec.extractLsb'_append_eq_right
  · rfl

/-- Settles O58. -/
theorem statusWordBits : Obligations.StatusWordBits := by
  refine ⟨fun s => ?_, rfl, rfl, rfl, rfl, rfl⟩
  obtain ⟨hbusy, hdone, hovf, hcfg, hzero⟩ := statusSW0_flags s
  obtain ⟨herr, hch, hhigh⟩ := statusSW0_fields s
  exact ⟨hbusy, hdone, hovf, hcfg, herr, hzero, hch, hhigh⟩

/-- Settles O60: each shown value fits its word (R32). -/
theorem statusShowsTheConfiguration : Obligations.StatusShowsTheConfiguration := by
  refine ⟨fun s hc => ?_, by decide⟩
  obtain ⟨hsps, hpause, hfc, hfs, hsym, hmax⟩ := wellFormed_fits hc
  exact ⟨toNat_ofNat_of_lt hsps, toNat_ofNat_of_lt hpause, rfl, toNat_ofNat_of_lt hfc, toNat_ofNat_of_lt hfs,
    toNat_ofNat_of_lt hsym, toNat_ofNat_of_lt hmax, rfl⟩

end Sys2Proof.Safety
end

section
/-! PROOF. Family 20_memory.md: the mark on the last sample of a buffer (O32) and the two waits (O16). -/

namespace Sys2Proof.Machine

/-- `out_last` as R121 marks it, before `N` goes up, is the mark of R43 on `N` as the emission leaves it: below `TOTAL`
the counter does not wrap. -/
theorem outLast_iff_succ_eq_total {s : State} (hn : s.n.toNat < s.total.toNat) :
    outLast s = true ↔ s.n + 1 = s.total := by
  rw [outLast, decide_eq_true_iff, ← BitVec.toNat_inj, toNat_succ_of_lt hn]

end Sys2Proof.Machine

namespace Sys2Proof.Safety

open Sys2Proof.Machine

/-- Settles O32: of the cases of a step only an emission transfers a sample. -/
theorem outLastMarksTheLastSample : Obligations.OutLastMarksTheLastSample := by
  intro s t _ h
  obtain ⟨-, hcase⟩ := step_cases h
  cases hcase with
  | emit _ hb hn v hv => exact .inr ⟨hb, v, outLast s, rfl, hv, outLast_iff_succ_eq_total hn⟩
  | _ => exact .inl rfl

/-- Settles O16: either wait only uses up the outside world's move. -/
theorem waitsKeepAllState : Obligations.WaitsKeepAllState := by
  refine ⟨fun s hs hm hq => ?_, fun s hs hn hm => ?_⟩
  · calc step s = idleStep s := step_of_ready hs hm
      _ = .next s.nextMove := idleStep_of_no_word hq
  · calc step s = runStep s := step_of_inRun hs
      _ = .next s.nextMove := runStep_of_stall hm hn

end Sys2Proof.Safety
end

section
/-! PROOF. Family 30_encoding.md: the decoder and the encoder (O1, O4), the legal words by match and mask (O3) and by
opcode and reserved bits (O2), an illegal word as a step (O15), and the words of `LOADS` (O37). -/

namespace Sys2Proof

open Sys2Proof.Machine

/-! The fields of a word as numbers (R54, R57). -/

theorem toNat_field (w : Word) (start len : Nat) : (w.extractLsb' start len).toNat = w.toNat / 2 ^ start % 2 ^ len := by
  rw [BitVec.extractLsb'_toNat, Nat.shiftRight_eq_div_pow]

theorem toNat_opcodeField (w : Word) : (opcodeField w).toNat = w.toNat / 2 ^ 24 % 2 ^ 8 :=
  toNat_field w 24 8

theorem toNat_charField (w : Word) : (charField w).toNat = w.toNat % 2 ^ 8 :=
  (toNat_field w 0 8).trans (by rw [Nat.pow_zero, Nat.div_one])

theorem toNat_bitWord_getLsbD (w : Word) (i : Nat) : (bitWord (w.getLsbD i)).toNat = w.toNat / 2 ^ i % 2 := by
  rw [← Nat.toNat_testBit, BitVec.testBit_toNat]
  cases w.getLsbD i <;> rfl

theorem toNat_bitWord_kindField (w : Word) : (bitWord (kindField w)).toNat = w.toNat / 2 ^ 8 % 2 :=
  toNat_bitWord_getLsbD w 8

theorem toNat_bitWord_softField (w : Word) : (bitWord (softField w)).toNat = w.toNat / 2 ^ 9 % 2 :=
  toNat_bitWord_getLsbD w 9

/-- The character does not reach the reserved bits (R55). -/
theorem toNat_encode_pushc (ch : Byte) : (encode (.pushc ch)).toNat = 2 * 2 ^ 24 + ch.toNat := by
  rw [encode]
  bv_omega

theorem charField_encode_pushc (ch : Byte) : charField (encode (.pushc ch)) = ch := by
  have hch := toNat_charField (encode (.pushc ch))
  rw [toNat_encode_pushc] at hch
  bv_omega

/-! A word as the bits a mask fixes and its operand bits (R56, R57). -/

/-- The bits under a mask and the bits outside it add up to the word: no bit position carries. -/
theorem and_add_and_not {n : Nat} (x m : BitVec n) : (x &&& m) + (x &&& ~~~m) = x := by
  have hdisjoint : (x &&& m) &&& (x &&& ~~~m) = 0#n := by
    ext i
    cases hm : m[i] <;> simp [hm]
  rw [BitVec.add_eq_or_of_and_eq_zero _ _ hdisjoint, ← BitVec.and_or_distrib_left, BitVec.or_not_self,
    BitVec.and_allOnes]

/-- The eight bits outside the mask of `PUSHC` are the character (R57(a)). -/
theorem and_not_pushcMask (w : Word) : w &&& ~~~0xFFFFFF00#32 = (charField w).setWidth 32 := by
  have hand : (w &&& ~~~0xFFFFFF00#32).toNat = w.toNat % 2 ^ 8 := Nat.and_two_pow_sub_one_eq_mod w.toNat 8
  have hch := toNat_charField w
  bv_omega

theorem and_kindMask (w : Word) : w &&& 256#32 = 256#32 * bitWord (kindField w) := by
  refine (BitVec.and_twoPow w 8).trans ?_
  unfold kindField
  cases w.getLsbD 8 <;> rfl

theorem and_softMask (w : Word) : w &&& 512#32 = 512#32 * bitWord (softField w) := by
  refine (BitVec.and_twoPow w 9).trans ?_
  unfold softField
  cases w.getLsbD 9 <;> rfl

/-- The two bits outside the mask of `ENC` are the command kind and the soft-regulation flag (R57(b), (c)). -/
theorem and_not_encMask (w : Word) :
    w &&& ~~~0xFFFFFCFF#32 = 256#32 * bitWord (kindField w) + 512#32 * bitWord (softField w) := by
  have hsplit : w &&& ~~~0xFFFFFCFF#32 = (w &&& 256#32) ||| (w &&& 512#32) :=
    BitVec.and_or_distrib_left (x := w) (y := 256#32) (z := 512#32)
  rw [hsplit, and_kindMask, and_softMask]
  cases kindField w <;> cases softField w <;> rfl

/-- A word is in the row of `PUSHC` exactly when it is the word of its character. -/
theorem pushcRow_iff (w : Word) : w &&& 0xFFFFFF00#32 = 0x02000000#32 ↔ w = encode (.pushc (charField w)) := by
  constructor
  · intro hrow
    calc w = (w &&& 0xFFFFFF00#32) + (w &&& ~~~0xFFFFFF00#32) := (and_add_and_not w _).symm
      _ = encode (.pushc (charField w)) := by rw [hrow, and_not_pushcMask, encode]
  · intro h
    rw [h]
    exact Laws.MatchesOpcodeRow.pushc _

/-- A word is in the row of `ENC` exactly when it is the word of its two flags. -/
theorem encRow_iff (w : Word) :
    w &&& 0xFFFFFCFF#32 = 0x03000000#32 ↔ w = encode (.enc (kindField w) (softField w)) := by
  constructor
  · intro hrow
    calc w = (w &&& 0xFFFFFCFF#32) + (w &&& ~~~0xFFFFFCFF#32) := (and_add_and_not w _).symm
      _ = encode (.enc (kindField w) (softField w)) := by
        rw [hrow, and_not_encMask, encode, BitVec.add_assoc]
  · intro h
    rw [h]
    exact Laws.MatchesOpcodeRow.enc _ _

/-! The decoder and the encoder (R61). -/

theorem decode_encode (i : Instr) : decode (encode i) = .command i := by
  cases i with
  | clrb => rfl
  | pushc ch =>
    have hclrb : encode (.pushc ch) ≠ 0x01000000#32 := by
      have henc := toNat_encode_pushc ch
      bv_omega
    have hrow : encode (.pushc ch) &&& 0xFFFFFF00#32 = 0x02000000#32 := Laws.MatchesOpcodeRow.pushc ch
    rw [decode, if_neg hclrb, if_pos hrow, charField_encode_pushc]
  | enc a s => cases a <;> cases s <;> rfl

/-- The words that decode to a command are the words of the commands: in each row, the operands read from the word are
all that its mask leaves free. -/
theorem decode_eq_command_iff {w : Word} {i : Instr} : decode w = .command i ↔ w = encode i := by
  refine ⟨fun h => ?_, fun h => h ▸ decode_encode i⟩
  unfold decode at h
  split at h
  next hclrb => exact Decoded.command.inj h ▸ hclrb
  split at h
  next hrow => exact Decoded.command.inj h ▸ (pushcRow_iff w).mp hrow
  split at h
  next hrow => exact Decoded.command.inj h ▸ (encRow_iff w).mp hrow
  cases h

theorem encode_injective : Function.Injective encode := fun _ _ h =>
  Decoded.command.inj ((decode_encode _).symm.trans (decode_eq_command_iff.mpr h))

/-- Settles O1. -/
theorem decodeInvertsEncode : Obligations.DecodeInvertsEncode :=
  ⟨rfl, fun _ => rfl, fun _ _ => rfl, fun i _ => decode_encode i, fun _ _ => decode_eq_command_iff.mp⟩

/-- Settles O4: each legal word is the word of its command. -/
theorem wordsOfTheFormatsDecode : Obligations.WordsOfTheFormatsDecode :=
  ⟨decode_encode .clrb, decode_encode (.pushc 0x30#8), decode_encode (.pushc 0xFF#8), decode_encode (.enc true false),
    decode_encode (.enc false true), by decide, by decide⟩

/-! The legal words by match and mask (R56). -/

/-- A property of some command is one of `CLRB`, of some `PUSHC` or of some `ENC`. -/
theorem exists_instr_iff {p : Instr → Prop} :
    (∃ i, p i) ↔ p .clrb ∨ (∃ ch, p (.pushc ch)) ∨ ∃ a s, p (.enc a s) := by
  constructor
  · rintro ⟨i, hi⟩
    cases i with
    | clrb => exact .inl hi
    | pushc ch => exact .inr (.inl ⟨ch, hi⟩)
    | enc a s => exact .inr (.inr ⟨a, s, hi⟩)
  · rintro (h | ⟨ch, h⟩ | ⟨a, s, h⟩)
    · exact ⟨_, h⟩
    · exact ⟨_, h⟩
    · exact ⟨_, h⟩

theorem decode_eq_clrb_iff (w : Word) : decode w = .command .clrb ↔ w &&& 0xFFFFFFFF#32 = 0x01000000#32 := by
  have hmask : w &&& 0xFFFFFFFF#32 = w := BitVec.and_allOnes
  rw [decode_eq_command_iff, hmask, encode]

theorem exists_decode_eq_pushc_iff (w : Word) :
    (∃ ch, decode w = .command (.pushc ch)) ↔ w &&& 0xFFFFFF00#32 = 0x02000000#32 := by
  simp only [decode_eq_command_iff]
  exact ⟨fun ⟨ch, h⟩ => h ▸ Laws.MatchesOpcodeRow.pushc ch, fun h => ⟨_, (pushcRow_iff w).mp h⟩⟩

theorem exists_decode_eq_enc_iff (w : Word) :
    (∃ a s, decode w = .command (.enc a s)) ↔ w &&& 0xFFFFFCFF#32 = 0x03000000#32 := by
  simp only [decode_eq_command_iff]
  exact ⟨fun ⟨a, s, h⟩ => h ▸ Laws.MatchesOpcodeRow.enc a s, fun h => ⟨_, _, (encRow_iff w).mp h⟩⟩

/-- A word decodes to one command only, so no word is in two rows. -/
theorem rows_disjoint (w : Word) :
    ¬(decode w = .command .clrb ∧ ∃ ch, decode w = .command (.pushc ch)) ∧
      ¬(decode w = .command .clrb ∧ ∃ a s, decode w = .command (.enc a s)) ∧
      ¬((∃ ch, decode w = .command (.pushc ch)) ∧ ∃ a s, decode w = .command (.enc a s)) :=
  ⟨fun ⟨hclrb, _, hpushc⟩ => (nomatch hclrb.symm.trans hpushc),
    fun ⟨hclrb, _, _, henc⟩ => (nomatch hclrb.symm.trans henc),
    fun ⟨⟨_, hpushc⟩, _, _, henc⟩ => (nomatch hpushc.symm.trans henc)⟩

theorem ncard_clrbWords : Set.ncard {w : Word | decode w = .command .clrb} = 1 := by
  have hset : {w : Word | decode w = .command .clrb} = {encode .clrb} := Set.ext fun _ => decode_eq_command_iff
  rw [hset, Set.ncard_singleton]

/-- One word for each of the 256 characters. -/
theorem ncard_pushcWords : Set.ncard {w : Word | ∃ ch, decode w = .command (.pushc ch)} = 256 := by
  have hset : {w : Word | ∃ ch, decode w = .command (.pushc ch)} = Set.range fun ch => encode (.pushc ch) :=
    Set.ext fun _ => exists_congr fun _ => decode_eq_command_iff.trans eq_comm
  have hinj : Function.Injective fun ch => encode (.pushc ch) := fun _ _ h => Instr.pushc.inj (encode_injective h)
  rw [hset, Set.ncard_range_of_injective hinj]
  calc Nat.card Byte = Nat.card (Fin (2 ^ 8)) := Nat.card_congr BitVec.equivFin.toEquiv
    _ = 256 := Nat.card_fin _

/-- One word for each of the four pairs of flags. -/
theorem ncard_encWords : Set.ncard {w : Word | ∃ a s, decode w = .command (.enc a s)} = 4 := by
  have hset : {w : Word | ∃ a s, decode w = .command (.enc a s)} =
      Set.range fun f : Bool × Bool => encode (.enc f.1 f.2) := by
    ext w
    simp [decode_eq_command_iff, eq_comm]
  have hinj : Function.Injective fun f : Bool × Bool => encode (.enc f.1 f.2) := fun _ _ h =>
    Prod.ext_iff.mpr (Instr.enc.inj (encode_injective h))
  rw [hset, Set.ncard_range_of_injective hinj, Nat.card_eq_fintype_card]
  rfl

/-- The words of the three rows together. -/
theorem ncard_commandWords : Set.ncard {w : Word | ∃ i, decode w = .command i} = 261 := by
  have hrows : {w : Word | ∃ i, decode w = .command i} = {w | decode w = .command .clrb} ∪
      ({w | ∃ ch, decode w = .command (.pushc ch)} ∪ {w | ∃ a s, decode w = .command (.enc a s)}) :=
    Set.ext fun _ => exists_instr_iff
  have hdisjoint : Disjoint {w : Word | ∃ ch, decode w = .command (.pushc ch)}
      {w | ∃ a s, decode w = .command (.enc a s)} := by
    refine Set.disjoint_left.mpr fun w hpushc henc => ?_
    obtain ⟨-, -, hboth⟩ := rows_disjoint w
    exact hboth ⟨hpushc, henc⟩
  have hdisjointClrb : Disjoint {w : Word | decode w = .command .clrb}
      ({w | ∃ ch, decode w = .command (.pushc ch)} ∪ {w | ∃ a s, decode w = .command (.enc a s)}) := by
    refine Set.disjoint_left.mpr fun w hclrb hrest => ?_
    obtain ⟨hnotPushc, hnotEnc, -⟩ := rows_disjoint w
    exact hrest.elim (fun hpushc => hnotPushc ⟨hclrb, hpushc⟩) fun henc => hnotEnc ⟨hclrb, henc⟩
  rw [hrows, Set.ncard_union_eq hdisjointClrb, Set.ncard_union_eq hdisjoint, ncard_clrbWords, ncard_pushcWords,
    ncard_encWords]

/-- Settles O3. -/
theorem legalWordsByMatchAndMask : Obligations.LegalWordsByMatchAndMask := by
  refine ⟨fun w => ?_, ncard_clrbWords, ncard_pushcWords, ncard_encWords, ncard_commandWords⟩
  rw [← decode_eq_clrb_iff, ← exists_decode_eq_pushc_iff, ← exists_decode_eq_enc_iff]
  exact ⟨Iff.rfl, Iff.rfl, Iff.rfl, rows_disjoint w⟩

/-! The legal words by opcode and reserved bits (R55, R58). -/

theorem decode_eq_clrb_iff_fields (w : Word) :
    decode w = .command .clrb ↔ opcodeField w = 1 ∧ w.extractLsb' 0 24 = 0 := by
  have hop := toNat_opcodeField w
  have hreserved := toNat_field w 0 24
  rw [decode_eq_command_iff, encode]
  bv_omega

theorem exists_decode_eq_pushc_iff_fields (w : Word) :
    (∃ ch, decode w = .command (.pushc ch)) ↔ opcodeField w = 2 ∧ w.extractLsb' 8 16 = 0 := by
  have hop := toNat_opcodeField w
  have hreserved := toNat_field w 8 16
  have hch := toNat_charField w
  have henc := toNat_encode_pushc (charField w)
  rw [exists_decode_eq_pushc_iff, pushcRow_iff]
  bv_omega

theorem exists_decode_eq_enc_iff_fields (w : Word) :
    (∃ a s, decode w = .command (.enc a s)) ↔
      opcodeField w = 3 ∧ w.extractLsb' 10 14 = 0 ∧ w.extractLsb' 0 8 = 0 := by
  have hop := toNat_opcodeField w
  have hhigh := toNat_field w 10 14
  have hlow := toNat_field w 0 8
  have hkind := toNat_bitWord_kindField w
  have hsoft := toNat_bitWord_softField w
  rw [exists_decode_eq_enc_iff, encRow_iff, encode]
  bv_omega

theorem exists_decode_eq_illegal_iff (w : Word) :
    (∃ why, decode w = .illegal why) ↔ ¬∃ i, decode w = .command i := by
  cases decode w <;> simp

/-- Settles O2: an illegal word is in none of the three rows, each said by its opcode and its reserved bits. -/
theorem illegalWordsExactly : Obligations.IllegalWordsExactly := by
  intro w
  rw [exists_decode_eq_illegal_iff, exists_instr_iff, decode_eq_clrb_iff_fields, exists_decode_eq_pushc_iff_fields,
    exists_decode_eq_enc_iff_fields]
  bv_omega

end Sys2Proof

namespace Sys2Proof.Machine

/-! The stored string (R15, R73). -/

/-- A traversal of a list depends on the values at its elements only. -/
theorem mapM_congr_left {α β : Type} {f g : α → Option β} {l : List α} (h : ∀ x ∈ l, f x = g x) :
    l.mapM f = l.mapM g := by
  induction l with
  | nil => rfl
  | cons x xs ih =>
    rw [List.mapM_cons, List.mapM_cons, h x List.mem_cons_self, ih fun y hy => h y (List.mem_cons_of_mem x hy)]

theorem storedString_of_len_zero {s : State} (h : s.len = 0) : storedString s = some [] := by
  rw [storedString, h]
  rfl

/-- A character stored below the top of the counter's range lengthens the string by one. -/
theorem toNat_len_appendChar {s : State} (h : s.len.toNat + 1 < 2 ^ 32) (ch : Byte) :
    (s.appendChar ch).len.toNat = s.len.toNat + 1 := by
  rw [State.appendChar_len]
  bv_omega

/-- A stored character is the last of the string (R115). -/
theorem storedString_appendChar {s : State} {bs : List Byte} (h : storedString s = some bs)
    (hl : s.len.toNat + 1 < 2 ^ 32) (ch : Byte) : storedString (s.appendChar ch) = some (bs ++ [ch]) := by
  have hbelow : (List.range s.len.toNat).mapM (s.sym.write s.len.toNat ch).read = some bs :=
    (mapM_congr_left fun i hi =>
      Memory.read_write_other _ _ _ _ (Nat.ne_of_lt (List.mem_range.mp hi))).trans h
  rw [storedString, State.appendChar_sym, toNat_len_appendChar hl, List.range_succ, List.mapM_append, hbelow]
  simp [Memory.read_write_same]

/-! The words of a sequence of commands on the port (R63, R119). -/

theorem move_ne_reset {s : State} (h : s.outside = []) : s.move ≠ .reset := by
  unfold State.move
  rw [h]
  cases s.outReady <;> simp

/-- The next word on the port is a command's: it has its effect, and the words after it remain. -/
theorem step_of_wordsOf {s : State} {i : Instr} {is : List Instr} (hs : Safety.Ready s) (ho : s.outside = [])
    (hq : s.cmdQueue = wordsOf (i :: is)) : step s = commandEffect i s.taken :=
  step_of_command hs (move_ne_reset ho) hq (decode_encode i)

/-- A run of one step more begins with a step. -/
theorem run_succ_of_step {M : Host.Core} {s t : M.State} (h : M.step s = .next t) (k : Nat) :
    M.run (k + 1) s = M.run k t := by
  rw [Host.Core.run, h]

end Sys2Proof.Machine

namespace Sys2Proof.Safety

open Sys2Proof.Machine

/-- Settles O15: the case of an illegal word is a step. -/
theorem illegalWordIsConsumed : Obligations.IllegalWordIsConsumed := by
  refine ⟨⟨_, rfl⟩, fun s w why hp hd => ?_⟩
  obtain ⟨⟨hc, hb⟩, hm, hq⟩ := hp
  obtain ⟨ws, hq⟩ := List.head?_eq_some_iff.mp hq
  exact (StepCase.illegal hm hb w ws why hq hd).step_eq hc

/-! `LOADS` word by word (R64). -/

/-- `t` is a moment of the loading of a string from `s`: the characters `bs` are stored, and the words that push `cs`
are all that is still presented. -/
structure Loading (s : State) (bs cs : List Byte) (t : State) : Prop where
  ready : Ready t
  noMoves : t.outside = []
  config : t.cfg = s.cfg
  waiting : t.cmdQueue = wordsOf (cs.map .pushc)
  stored : storedString t = some bs
  lenIs : t.len.toNat = bs.length
  notOverflowed : t.ovf = false
  noError : t.err = .none
  doneKept : t.done = s.done
  outputKept : t.outbuf = s.outbuf

/-- The first word of `LOADS` empties the string. -/
theorem loading_of_clrb {s : State} {cs : List Byte} (hs : Ready s) (ho : s.outside = [])
    (hq : s.cmdQueue = wordsOf (loads cs)) : ∃ t, step s = .next t ∧ Loading s [] cs t :=
  ⟨_, step_of_wordsOf hs ho hq,
    { ready := hs
      noMoves := congrArg List.tail ho
      config := rfl
      waiting := congrArg List.tail hq
      stored := storedString_of_len_zero rfl
      lenIs := rfl
      notOverflowed := rfl
      noError := rfl
      doneKept := rfl
      outputKept := rfl }⟩

/-- Each further word stores its character, as long as there is room. -/
theorem Loading.push {s t : State} {bs cs : List Byte} {c : Byte} (h : Loading s bs (c :: cs) t)
    (hroom : bs.length < s.cfg.maxBits) : ∃ t', step t = .next t' ∧ Loading s (bs ++ [c]) cs t' := by
  have hroom' : t.len.toNat < t.cfg.maxBits := by rwa [h.lenIs, h.config]
  obtain ⟨hc, -⟩ := h.ready
  obtain ⟨-, -, -, -, -, hmax⟩ := t.cfg.wellFormed_parts hc
  have hfits : t.len.toNat + 1 < 2 ^ 32 := Nat.lt_of_le_of_lt hroom' hmax
  exact ⟨_, (step_of_wordsOf h.ready h.noMoves h.waiting).trans (pushcEffect_of_room (s := t.taken) hroom' c),
    { ready := h.ready
      noMoves := congrArg List.tail h.noMoves
      config := h.config
      waiting := congrArg List.tail h.waiting
      stored := storedString_appendChar (s := t.taken) h.stored hfits c
      lenIs := (toNat_len_appendChar (s := t.taken) hfits c).trans (by
        rw [State.takeWord_len, State.nextMove_len, h.lenIs, List.length_append, List.length_singleton])
      notOverflowed := h.notOverflowed
      noError := rfl
      doneKept := h.doneKept
      outputKept := h.outputKept }⟩

/-- The words still presented store their characters in order, by induction on them. -/
theorem Loading.run {s t : State} {bs cs : List Byte} (h : Loading s bs cs t)
    (hfits : bs.length + cs.length ≤ s.cfg.maxBits) :
    ∃ t', Host.Core.run Sys2Proof.core cs.length t = .next t' ∧ Loading s (bs ++ cs) [] t' := by
  induction cs generalizing bs t with
  | nil => exact ⟨t, rfl, bs.append_nil.symm ▸ h⟩
  | cons c cs ih =>
    rw [List.length_cons] at hfits
    obtain ⟨u, hstep, hu⟩ := h.push (by omega)
    obtain ⟨t', hrun, ht'⟩ := ih hu (by rw [List.length_append, List.length_singleton]; omega)
    exact ⟨t', (run_succ_of_step (M := Sys2Proof.core) hstep _).trans hrun, bs.append_cons c cs ▸ ht'⟩

/-- Settles O37: `CLRB` empties the string, and each `PUSHC` after it appends its character. -/
theorem loadsStoresTheString : Obligations.LoadsStoresTheString := by
  intro s cs hs hfits ho hq
  obtain ⟨u, hstep, hu⟩ := loading_of_clrb hs ho hq
  obtain ⟨t, hrun, ht⟩ := hu.run (by rwa [List.length_nil, Nat.zero_add])
  obtain ⟨-, hb⟩ := ht.ready
  exact ⟨t, (run_succ_of_step (M := Sys2Proof.core) hstep _).trans hrun, ht.stored, ht.lenIs, ht.notOverflowed,
    ht.noError, hb, ht.waiting, ht.doneKept, ht.outputKept⟩

end Sys2Proof.Safety
end

section
/-! PROOF. Family 40_bitmap.md: the validation scan (O38), the inverted line code (O39) and the line bits of a string
(O40). -/

namespace Sys2Proof.Machine

/-! A character under the inverted line code (R66 to R69). -/

/-- Inverting the lowest bit exchanges the two valid characters and leaves the others malformed. -/
theorem valid_xor_one (c : Byte) : valid (c ^^^ 1#8) = valid c := by
  have hzero : c ^^^ 1#8 = 0x30#8 ↔ c = 0x31#8 := BitVec.xor_left_inj (x := c) (y := 0x31#8) 1#8
  have hone : c ^^^ 1#8 = 0x31#8 ↔ c = 0x30#8 := BitVec.xor_left_inj (x := c) (y := 0x30#8) 1#8
  simp only [valid, hzero, hone, Bool.or_comm]

/-- The line bit of a character is the application bit of its inverse; a malformed one has neither (R69, R72). -/
theorem appBit_xor_one (c : Byte) : appBit (c ^^^ 1#8) = lineBit c := by
  cases hv : valid c with
  | false => rw [lineBit_of_invalid hv, appBit, valid_xor_one, hv, if_neg Bool.false_ne_true]
  | true => simp [lineBit, appBit, valid_xor_one, hv]

theorem appBit_of_invalid {c : Byte} (hv : valid c = false) : appBit c = none :=
  Option.map_eq_none_iff.mp (lineBit_of_invalid hv)

theorem xor_one_xor_one (c : Byte) : c ^^^ 1#8 ^^^ 1#8 = c := by
  rw [BitVec.xor_assoc, BitVec.xor_self, BitVec.xor_zero]

theorem xor_one_ne (c : Byte) : c ^^^ 1#8 ≠ c := fun h =>
  absurd ((BitVec.xor_right_inj c).mp (h.trans BitVec.xor_zero.symm)) (by decide)

/-! The inverted string (R69, R70). -/

theorem invert_invert (bs : List Byte) : invert (invert bs) = bs := by
  rw [invert, invert, List.map_map]
  exact List.map_id'' xor_one_xor_one bs

theorem length_invert (bs : List Byte) : (invert bs).length = bs.length :=
  List.length_map _

theorem valid_of_mem_invert {bs : List Byte} (hv : ∀ c ∈ bs, valid c = true) : ∀ c ∈ invert bs, valid c = true :=
  List.forall_mem_map.mpr fun c hc => (valid_xor_one c).trans (hv c hc)

theorem getElem?_invert {bs : List Byte} {j : Nat} {c : Byte} (h : bs[j]? = some c) :
    (invert bs)[j]? = some (c ^^^ 1#8) := by
  rw [invert, List.getElem?_map, h, Option.map_some]

theorem mapM_appBit_invert (bs : List Byte) : (invert bs).mapM appBit = bs.mapM lineBit := by
  rw [invert, List.mapM_map]
  exact mapM_congr_left fun c _ => appBit_xor_one c

/-! Where the validation scan stops (R71). -/

/-- A scan that reports a malformed character has passed clean over the cells before it. -/
theorem scanFrom_bad {m : Memory} {j count d : Nat} {c : Byte} (h : scanFrom m j count = .bad d c) :
    ∃ k < count, d = j + k ∧ scanFrom m j k = .clean ∧ m.read d = some c ∧ valid c = false := by
  induction count generalizing j with
  | zero => cases h
  | succ count ih =>
    cases hr : m.read j with
    | none => cases (scanFrom_succ_of_unwritten hr count).symm.trans h
    | some b =>
      cases hv : valid b with
      | false =>
        cases (scanFrom_succ_of_invalid hr hv count).symm.trans h
        exact ⟨0, Nat.succ_pos count, rfl, rfl, hr, hv⟩
      | true =>
        rw [scanFrom_succ_of_valid hr hv] at h
        obtain ⟨k, hk, rfl, hclean, hbad⟩ := ih h
        exact ⟨k + 1, Nat.succ_lt_succ hk, Nat.succ_add_eq_add_succ j k, (scanFrom_succ_of_valid hr hv k).trans hclean,
          hbad⟩

/-- The scan reports the malformed character that has only valid ones below it. -/
theorem firstBad_eq_bad_iff {m : Memory} {len j : Nat} {c : Byte} :
    firstBad m len = .bad j c ↔ j < len ∧ m.read j = some c ∧ valid c = false ∧ Safety.AllValidBelow m j := by
  constructor
  · intro h
    obtain ⟨k, hk, hj, hclean, hr, hv⟩ := scanFrom_bad h
    obtain rfl : j = k := hj.trans (Nat.zero_add k)
    exact ⟨hk, hr, hv, allValidBelow_of_firstBad_clean hclean⟩
  · rintro ⟨hj, hr, hv, hbelow⟩
    obtain ⟨count, rfl⟩ := Nat.exists_eq_add_of_lt hj
    rw [Nat.add_assoc, firstBad_of_allValidBelow hbelow, scanFrom_succ_of_invalid hr hv]

theorem firstBad_eq_clean_iff {m : Memory} {len : Nat} : firstBad m len = .clean ↔ Safety.AllValidBelow m len :=
  ⟨allValidBelow_of_firstBad_clean, firstBad_clean_of_allValidBelow⟩

end Sys2Proof.Machine

namespace Sys2Proof.Safety

open Sys2Proof.Machine

/-- Settles O38. -/
theorem firstBadIsTheLeastIndex : Obligations.FirstBadIsTheLeastIndex := fun _ _ =>
  ⟨fun _ _ => firstBad_eq_bad_iff, firstBad_eq_clean_iff, rfl, fun _ => firstBad_congr⟩

/-- Settles O39: the line code inverts each character by itself. -/
theorem invertIsAnInvolution : Obligations.InvertIsAnInvolution :=
  ⟨fun bs => ⟨invert_invert bs, length_invert bs⟩, fun _ => valid_of_mem_invert, rfl,
    fun _ _ c hj => ⟨c ^^^ 1#8, getElem?_invert hj, xor_one_ne c⟩⟩

/-- Settles O40. -/
theorem lineBitsAreInvertedBits : Obligations.LineBitsAreInvertedBits :=
  ⟨mapM_appBit_invert, fun _ hv => ⟨lineBit_of_invalid hv, appBit_of_invalid hv⟩, by decide, by decide⟩

end Sys2Proof.Safety
end

section
/-! PROOF. Family 41_nco.md: samples per symbol as a rounded quotient (O41, O42), the time grid (O43), the phase (O44) and
the numbers of DSR-DEFAULT (O45). -/

namespace Sys2Proof.Machine

/-! The rounded quotient (R74, R75). -/

/-- Rounding goes down up to one half and up from it, and at one half to the even neighbour. -/
theorem roundHalfEven_cases (a b : Nat) :
    (roundHalfEven a b = a / b ∧ 2 * (a % b) ≤ b ∧ (2 * (a % b) = b → Even (a / b))) ∨
      (roundHalfEven a b = a / b + 1 ∧ b ≤ 2 * (a % b) ∧ (2 * (a % b) = b → Even (a / b + 1))) := by
  unfold roundHalfEven
  split
  next hlt => exact .inl ⟨rfl, hlt.le, fun htie => absurd htie hlt.ne⟩
  next hge =>
    split
    next hgt => exact .inr ⟨rfl, hgt.le, fun htie => absurd htie hgt.ne'⟩
    next hle =>
      split
      next heven => exact .inl ⟨rfl, Nat.not_lt.mp hle, fun _ => Nat.even_iff.mpr heven⟩
      next hodd => exact .inr ⟨rfl, Nat.not_lt.mp hge, fun _ => Nat.even_add_one.mpr (mt Nat.even_iff.mp hodd)⟩

/-- The rounded quotient times the divisor is off the dividend by the remainder, or by what the remainder lacks to the
divisor: by at most half the divisor, and by exactly half only where the rounded quotient is even. -/
theorem two_mul_abs_roundHalfEven_error {a b : Nat} (hb : 0 < b) :
    2 * |(roundHalfEven a b : ℤ) * b - a| ≤ b ∧
      (2 * |(roundHalfEven a b : ℤ) * b - a| = b → Even (roundHalfEven a b)) := by
  have hdiv : ((a / b : ℕ) : ℤ) * b + (a % b : ℕ) = a := by exact_mod_cast Nat.div_add_mod' a b
  have hmod : a % b < b := Nat.mod_lt a hb
  rcases roundHalfEven_cases a b with ⟨hr, hle, heven⟩ | ⟨hr, hle, heven⟩
  · have herr : |(roundHalfEven a b : ℤ) * b - a| = (a % b : ℕ) := by
      rw [hr, ← hdiv, sub_add_cancel_left, abs_neg, Nat.abs_cast]
    rw [herr, hr]
    exact ⟨by omega, fun _ => heven (by omega)⟩
  · have herr : |(roundHalfEven a b : ℤ) * b - a| = (b - a % b : ℕ) := by
      rw [hr, ← hdiv, Nat.cast_succ, add_one_mul, add_sub_add_left_eq_sub, ← Nat.cast_sub hmod.le, Nat.abs_cast]
    rw [herr, hr]
    exact ⟨by omega, fun _ => heven (by omega)⟩

/-- A quotient is rounded to zero up to one half, the tie included, for zero is even. -/
theorem roundHalfEven_eq_zero_iff {a b : Nat} (hb : 0 < b) : roundHalfEven a b = 0 ↔ 2 * a ≤ b := by
  constructor
  · intro hzero
    obtain ⟨hnear, -⟩ := two_mul_abs_roundHalfEven_error (a := a) hb
    rw [hzero, Nat.cast_zero, zero_mul, zero_sub, abs_neg, Nat.abs_cast] at hnear
    exact_mod_cast hnear
  · intro hle
    have hlt : a < b := by omega
    have hcases := roundHalfEven_cases a b
    rw [Nat.div_eq_of_lt hlt, Nat.mod_eq_of_lt hlt] at hcases
    rcases hcases with ⟨hr, -, -⟩ | ⟨-, hge, heven⟩
    · exact hr
    · exact absurd (heven (hle.antisymm hge)) (by decide)

/-! The time grid and the phase (R77 to R79). -/

/-- With two samples a symbol or more the divisor of the grid is positive. -/
theorem sps_sub_one_pos {c : Config} (h : 2 ≤ sps c) : (0 : ℚ) < sps c - 1 := by
  have : (2 : ℚ) ≤ sps c := by exact_mod_cast h
  linarith

theorem sampleTime_zero (c : Config) : sampleTime c 0 = 0 := by
  simp [sampleTime]

theorem sampleTime_of_two_le {c : Config} (h : 2 ≤ sps c) (k : Nat) :
    sampleTime c k = k * (1 / (c.symRate : ℚ)) / (sps c - 1) :=
  if_neg (Nat.not_le.mpr h)

theorem sampleTime_last {c : Config} (h : 2 ≤ sps c) : sampleTime c (sps c - 1) = 1 / (c.symRate : ℚ) := by
  rw [sampleTime_of_two_le h, Nat.cast_pred (Nat.zero_lt_of_lt h), mul_div_right_comm, div_self (sps_sub_one_pos h).ne',
    one_mul]

theorem sampleTime_succ_sub {c : Config} (h : 2 ≤ sps c) (k : Nat) :
    sampleTime c (k + 1) - sampleTime c k = 1 / (c.symRate : ℚ) / (sps c - 1) := by
  rw [sampleTime_of_two_le h, sampleTime_of_two_le h, Nat.cast_succ]
  ring

theorem phase_zero (c : Config) : phase c 0 = 0 := by
  rw [phase, sampleTime_zero, mul_zero]

theorem phase_eq_mul_phaseIncrement {c : Config} (h : 2 ≤ sps c) (k : Nat) : phase c k = k * phaseIncrement c := by
  rw [phase, sampleTime_of_two_le h, phaseIncrement, ← div_div]
  ring

/-! The phase of DSR-DEFAULT (R80). -/

theorem sps_dsrDefault : sps dsrDefault = 2417 := by decide

theorem phaseIncrement_dsrDefault : phaseIncrement dsrDefault = 6373 / 966400 := by
  rw [phaseIncrement, sps_dsrDefault, show dsrDefault.fcHz = 19119 from rfl, show dsrDefault.symRate = 1200 from rfl]
  norm_num

theorem sampleTime_dsrDefault (k : Nat) : sampleTime dsrDefault k = k / 2899200 := by
  rw [sampleTime_of_two_le (by simp [sps_dsrDefault]), sps_dsrDefault, show dsrDefault.symRate = 1200 from rfl]
  ring

theorem phase_dsrDefault (k : Nat) : phase dsrDefault k = 6373 * k / 966400 := by
  rw [phase_eq_mul_phaseIncrement (by simp [sps_dsrDefault]), phaseIncrement_dsrDefault]
  ring

/-- Twice the phase is an integer at the multiples of `966400 / gcd (2 * 6373, 966400) = 483200` only. -/
theorem two_mul_phase_dsrDefault_int_iff (k : Nat) : (∃ z : ℤ, 2 * phase dsrDefault k = z) ↔ 483200 ∣ k := by
  have hcoprime : Nat.Coprime 483200 6373 := by decide
  calc (∃ z : ℤ, 2 * phase dsrDefault k = z)
      ↔ ∃ z : ℤ, ((6373 * k : ℕ) : ℤ) = (483200 : ℕ) * z := by
        refine exists_congr fun z => ?_
        rw [phase_dsrDefault, ← Int.cast_inj (α := ℚ)]
        push_cast
        constructor <;> intro h <;> linarith
    _ ↔ 483200 ∣ 6373 * k := Int.natCast_dvd_natCast
    _ ↔ 483200 ∣ k := hcoprime.dvd_mul_left

/-- Of the multiples of 483200 only zero is the index of a sample. -/
theorem two_mul_phase_dsrDefault_int_iff_zero {k : Nat} (hk : k ≤ 2416) :
    (∃ z : ℤ, 2 * phase dsrDefault k = z) ↔ k = 0 := by
  rw [two_mul_phase_dsrDefault_int_iff]
  omega

/-- The sine of a phase in cycles is zero exactly at the half cycles. -/
theorem sin_two_pi_mul_eq_zero_iff (q : ℚ) : Real.sin (2 * Real.pi * (q : ℝ)) = 0 ↔ ∃ z : ℤ, 2 * q = z := by
  rw [Real.sin_eq_zero_iff]
  refine exists_congr fun z => ?_
  rw [show 2 * Real.pi * (q : ℝ) = 2 * q * Real.pi by ring, mul_left_inj' Real.pi_ne_zero, eq_comm]
  norm_cast

end Sys2Proof.Machine

namespace Sys2Proof.Safety

open Sys2Proof.Machine

/-- Settles O41. -/
theorem spsRoundsToNearestEven : Obligations.SpsRoundsToNearestEven :=
  ⟨fun _ hc => two_mul_abs_roundHalfEven_error hc, sps_dsrDefault, by decide, by decide, by decide, by decide⟩

/-- Settles O42. -/
theorem degenerateExactlyAtHalf : Obligations.DegenerateExactlyAtHalf := by
  intro c hc
  have hpos : (0 : ℚ) < c.symRate := by exact_mod_cast hc
  calc sps c = 0 ↔ 2 * c.fsHz ≤ c.symRate := roundHalfEven_eq_zero_iff hc
    _ ↔ 2 * (c.fsHz : ℚ) ≤ c.symRate := by norm_cast
    _ ↔ (c.fsHz : ℚ) / c.symRate ≤ 1 / 2 := by
      rw [div_le_div_iff₀ hpos two_pos, one_mul, mul_comm]

/-- Settles O43. -/
theorem timeGridIncludesBothEnds : Obligations.TimeGridIncludesBothEnds := fun c =>
  ⟨fun h => ⟨sampleTime_of_two_le h, sampleTime_zero c, sampleTime_last h, sampleTime_succ_sub h⟩,
    fun _ => sampleTime_zero c⟩

/-- Settles O44. -/
theorem phaseIsExactAccumulation : Obligations.PhaseIsExactAccumulation := by
  intro c k _
  refine ⟨fun h => ?_, fun _ => phase_zero c⟩
  have hphase := phase_eq_mul_phaseIncrement h k
  exact ⟨by rw [hphase, phaseIncrement, mul_comm, div_mul_eq_mul_div], hphase⟩

/-- Settles O45: the sine is zero where twice the phase is an integer. -/
theorem defaultPhaseNumbers : Obligations.DefaultPhaseNumbers := by
  refine ⟨sps_dsrDefault, ?_, phaseIncrement_dsrDefault, fun k => ⟨sampleTime_dsrDefault k, phase_dsrDefault k⟩, ?_,
    fun _ => two_mul_phase_dsrDefault_int_iff_zero,
    fun k hk => (sin_two_pi_mul_eq_zero_iff _).trans (two_mul_phase_dsrDefault_int_iff_zero hk)⟩
  · rw [phaseIncrement_dsrDefault]
    norm_num
  · rw [phase_dsrDefault]
    norm_num

end Sys2Proof.Safety
end

section
/-! PROOF. Family 42_am_engine.md: the binary32 values in rising order (O46), rounding to the nearest of them (O47, O48),
the carrier samples (O49, O50, O52) and the carrier table (O51, O53). -/

namespace Sys2Proof.Machine

/-! The fields of a pattern (R85). The sign apart, a pattern is the number of its low 31 bits. -/

theorem toNat_lowBits (p : Word) : (p.extractLsb' 0 31).toNat = p.toNat % 2 ^ 31 := by
  simp

theorem expField_eq (p : Word) : expField p = (p.extractLsb' 0 31).toNat / 2 ^ 23 := by
  rw [toNat_lowBits, expField, BitVec.extractLsb'_toNat, Nat.shiftRight_eq_div_pow]
  omega

theorem fracField_eq (p : Word) : fracField p = (p.extractLsb' 0 31).toNat % 2 ^ 23 := by
  rw [toNat_lowBits, fracField, BitVec.extractLsb'_toNat, Nat.shiftRight_zero]
  omega

/-- The finite patterns are those up to the greatest finite magnitude. -/
theorem isFinite32_iff (p : Word) : isFinite32 p = true ↔ (p.extractLsb' 0 31).toNat ≤ 0x7F7FFFFF := by
  rw [isFinite32, decide_eq_true_eq, expField_eq]
  omega

theorem signBit_iff (p : Word) : signBit p = true ↔ 2 ^ 31 ≤ p.toNat := by
  rw [signBit, ← BitVec.msb_eq_getLsbD_last p, BitVec.msb_eq_decide, decide_eq_true_eq]

theorem fracField_even_iff (p : Word) : fracField p % 2 = 0 ↔ Even (ordinal32 p) := by
  rw [Int.even_iff, fracField_eq, ordinal32]
  split <;> omega

/-- A pattern is its sign and its place among the values. -/
theorem eq_of_ordinal32_eq {p q : Word} (hord : ordinal32 p = ordinal32 q) (hsign : signBit p = signBit q) : p = q := by
  rw [Bool.eq_iff_iff, signBit_iff, signBit_iff] at hsign
  simp only [ordinal32, signBit_iff, toNat_lowBits] at hord
  have hp := p.isLt
  have hq := q.isLt
  refine BitVec.eq_of_toNat_eq ?_
  split at hord <;> split at hord <;> omega

theorem signBit_iff_ordinal32_neg {p : Word} (hp : ordinal32 p ≠ 0) : signBit p = true ↔ ordinal32 p < 0 := by
  rw [ordinal32] at hp ⊢
  split at hp
  next hsign =>
    rw [if_pos hsign]
    exact iff_of_true hsign (by omega)
  next hsign =>
    rw [if_neg hsign]
    exact iff_of_false hsign (by omega)

theorem ordinal32_bounds {p : Word} (hp : isFinite32 p = true) :
    -0x7F7FFFFF ≤ ordinal32 p ∧ ordinal32 p ≤ 0x7F7FFFFF := by
  rw [isFinite32_iff] at hp
  rw [ordinal32]
  split <;> omega

/-- The pattern `m` with the sign bit clear. -/
theorem ofNat_pattern {m : Nat} (hm : m ≤ 0x7F7FFFFF) :
    isFinite32 (BitVec.ofNat 32 m) = true ∧ signBit (BitVec.ofNat 32 m) = false ∧ ordinal32 (BitVec.ofNat 32 m) = m := by
  have hnat : (BitVec.ofNat 32 m).toNat = m := by rw [BitVec.toNat_ofNat, Nat.mod_eq_of_lt (by omega)]
  have hsign : signBit (BitVec.ofNat 32 m) = false := by
    rw [← Bool.not_eq_true, signBit_iff]
    omega
  rw [isFinite32_iff, ordinal32, if_neg (by rw [hsign]; exact Bool.false_ne_true), toNat_lowBits, hnat]
  exact ⟨by omega, hsign, by omega⟩

/-- The pattern `m` with the sign bit set. -/
theorem signed_pattern {m : Nat} (hm : m ≤ 0x7F7FFFFF) :
    isFinite32 (0x80000000#32 ||| BitVec.ofNat 32 m) = true ∧ signBit (0x80000000#32 ||| BitVec.ofNat 32 m) = true ∧
      ordinal32 (0x80000000#32 ||| BitVec.ofNat 32 m) = -m := by
  have hnat : (0x80000000#32 ||| BitVec.ofNat 32 m).toNat = 2 ^ 31 + m := by
    rw [BitVec.toNat_or, BitVec.toNat_ofNat, BitVec.toNat_ofNat, Nat.mod_eq_of_lt (show m < 2 ^ 32 by omega),
      ← Nat.two_pow_add_eq_or_of_lt (show m < 2 ^ 31 by omega) 1]
    rfl
  have hsign : signBit (0x80000000#32 ||| BitVec.ofNat 32 m) = true := by
    rw [signBit_iff]
    omega
  rw [isFinite32_iff, ordinal32, if_pos hsign, toNat_lowBits, hnat]
  exact ⟨by omega, hsign, by omega⟩

/-- Every place among the finite values has a pattern. -/
theorem exists_finite_ordinal32_eq {n : ℤ} (hlo : -0x7F7FFFFF ≤ n) (hhi : n ≤ 0x7F7FFFFF) :
    ∃ p, isFinite32 p = true ∧ ordinal32 p = n := by
  rcases Int.eq_nat_or_neg n with ⟨m, rfl | rfl⟩
  · obtain ⟨hfin, -, hord⟩ := ofNat_pattern (m := m) (by omega)
    exact ⟨_, hfin, hord⟩
  · obtain ⟨hfin, -, hord⟩ := signed_pattern (m := m) (by omega)
    exact ⟨_, hfin, hord⟩

/-! The values in rising order. -/

/-- The magnitude, in units of `2^(-149)`, that the low 31 bits `m` of a pattern denote (R85). -/
def magnitudeAt (m : Nat) : Nat :=
  if m / 2 ^ 23 = 0 then m % 2 ^ 23 else (2 ^ 23 + m % 2 ^ 23) * 2 ^ (m / 2 ^ 23 - 1)

theorem magnitude32_eq (p : Word) : magnitude32 p = magnitudeAt (p.extractLsb' 0 31).toNat := by
  rw [magnitude32, expField_eq, fracField_eq, magnitudeAt]

/-- A significand `r` at the shift `e` is the magnitude of the pattern `e * 2^23 + r`, a carry `r = 2^24` included. -/
theorem magnitudeAt_shift {e r : Nat} (hr : r ≤ 2 ^ 24) (hnormal : e = 0 ∨ 2 ^ 23 ≤ r) :
    magnitudeAt (e * 2 ^ 23 + r) = r * 2 ^ e := by
  rw [magnitudeAt]
  rcases Nat.lt_or_ge r (2 ^ 23) with hsub | hge
  · obtain rfl : e = 0 := by omega
    rw [if_pos (by omega), pow_zero]
    omega
  · rw [if_neg (by omega)]
    rcases hr.lt_or_eq with hlt | rfl
    · rw [show (e * 2 ^ 23 + r) / 2 ^ 23 - 1 = e by omega, show 2 ^ 23 + (e * 2 ^ 23 + r) % 2 ^ 23 = r by omega]
    · rw [show (e * 2 ^ 23 + 2 ^ 24) / 2 ^ 23 - 1 = e + 1 by omega,
        show 2 ^ 23 + (e * 2 ^ 23 + 2 ^ 24) % 2 ^ 23 = 2 ^ 23 by omega]
      ring

theorem magnitudeAt_zero : magnitudeAt 0 = 0 := rfl

theorem magnitudeAt_strictMono : StrictMono magnitudeAt := by
  refine strictMono_nat_of_lt_succ fun m => ?_
  obtain ⟨e, r, rfl, hr, hnormal⟩ : ∃ e r, m = e * 2 ^ 23 + r ∧ r < 2 ^ 24 ∧ (e = 0 ∨ 2 ^ 23 ≤ r) :=
    ⟨m / 2 ^ 23 - 1, m - (m / 2 ^ 23 - 1) * 2 ^ 23, by omega, by omega, by omega⟩
  rw [magnitudeAt_shift hr.le hnormal, add_assoc, magnitudeAt_shift (by omega) (by omega)]
  exact Nat.mul_lt_mul_of_pos_right (Nat.lt_succ_self r) (by positivity)

/-- The value at place `n` of the rising order of `ordinal32`, going on past the greatest finite one. -/
def valueAt (n : ℤ) : ℚ :=
  n.sign * (magnitudeAt n.natAbs / 2 ^ 149)

theorem valueAt_natCast (m : Nat) : valueAt m = magnitudeAt m / 2 ^ 149 := by
  rcases m.eq_zero_or_pos with rfl | hpos
  · simp [valueAt, magnitudeAt_zero]
  · simp [valueAt, Int.sign_eq_one_of_pos (Int.natCast_pos.mpr hpos)]

theorem valueAt_neg (n : ℤ) : valueAt (-n) = -valueAt n := by
  simp [valueAt, Int.sign_neg]

theorem valueAt_zero : valueAt 0 = 0 := by
  simp [valueAt]

theorem valueAt_strictMono : StrictMono valueAt := by
  refine strictMono_of_odd_strictMonoOn_nonneg valueAt_neg fun m hm n hn hlt => ?_
  lift m to ℕ using hm
  lift n to ℕ using hn
  rw [valueAt_natCast, valueAt_natCast]
  have hmag : (magnitudeAt m : ℚ) < magnitudeAt n := by
    exact_mod_cast magnitudeAt_strictMono (Int.ofNat_lt.mp hlt)
  gcongr

theorem f32_eq_valueAt (p : Word) : f32 p = valueAt (ordinal32 p) := by
  rw [f32, ordinal32, magnitude32_eq]
  split
  · rw [valueAt_neg, valueAt_natCast, neg_one_mul]
  · rw [valueAt_natCast, one_mul]

theorem f32_inj_iff {p q : Word} : f32 p = f32 q ↔ ordinal32 p = ordinal32 q := by
  rw [f32_eq_valueAt, f32_eq_valueAt, valueAt_strictMono.injective.eq_iff]

theorem f32_eq_zero_iff {p : Word} : f32 p = 0 ↔ ordinal32 p = 0 := by
  rw [f32_eq_valueAt, ← valueAt_zero, valueAt_strictMono.injective.eq_iff]

theorem abs_f32 (p : Word) : |f32 p| = magnitude32 p / 2 ^ 149 := by
  have hnonneg : (0 : ℚ) ≤ magnitude32 p / 2 ^ 149 := by positivity
  rw [f32]
  split <;> simp [abs_of_nonneg hnonneg]

theorem f32_of_signBit_false {p : Word} (hp : signBit p = false) : f32 p = magnitude32 p / 2 ^ 149 := by
  simp [f32, hp]

theorem f32_zero : f32 0x00000000#32 = 0 :=
  f32_eq_zero_iff.mpr (by decide)

/-! Rounding to the nearest value (R86). -/

/-- The upper of two values is at least as near to `x` as the lower when their midpoint is at most `x`. -/
theorem abs_upper_sub_le_iff {a b : ℝ} (hab : a < b) (x : ℝ) : |b - x| ≤ |a - x| ↔ a + b ≤ 2 * x := by
  rw [← sq_le_sq, ← sub_nonneg, show (a - x) ^ 2 - (b - x) ^ 2 = (b - a) * (2 * x - (a + b)) by ring,
    mul_nonneg_iff_of_pos_left (sub_pos.mpr hab), sub_nonneg]

theorem abs_lower_sub_le_iff {a b : ℝ} (hab : a < b) (x : ℝ) : |a - x| ≤ |b - x| ↔ 2 * x ≤ a + b := by
  rw [← sq_le_sq, ← sub_nonneg, show (b - x) ^ 2 - (a - x) ^ 2 = (b - a) * (a + b - 2 * x) by ring,
    mul_nonneg_iff_of_pos_left (sub_pos.mpr hab), sub_nonneg]

/-- Two values are equally near to their midpoint alone. -/
theorem abs_sub_eq_iff {a b : ℝ} (hab : a < b) (x : ℝ) : |a - x| = |b - x| ↔ a + b = 2 * x := by
  rw [le_antisymm_iff, abs_lower_sub_le_iff hab, abs_upper_sub_le_iff hab, and_comm, ← le_antisymm_iff]

/-- `x` lies between the midpoints from the value at place `n` to its two finite neighbours, on a midpoint only when `n`
is even. -/
def IsNearestPlace (x : ℝ) (n : ℤ) : Prop :=
  (-0x7F7FFFFF < n →
    ((valueAt (n - 1) + valueAt n : ℚ) : ℝ) ≤ 2 * x ∧ (((valueAt (n - 1) + valueAt n : ℚ) : ℝ) = 2 * x → Even n)) ∧
  (n < 0x7F7FFFFF →
    2 * x ≤ ((valueAt n + valueAt (n + 1) : ℚ) : ℝ) ∧ (((valueAt n + valueAt (n + 1) : ℚ) : ℝ) = 2 * x → Even n))

theorem valueAt_cast_lt {m n : ℤ} (h : m < n) : ((valueAt m : ℚ) : ℝ) < valueAt n :=
  Rat.cast_lt.mpr (valueAt_strictMono h)

theorem valueAt_cast_le {m n : ℤ} (h : m ≤ n) : ((valueAt m : ℚ) : ℝ) ≤ valueAt n :=
  Rat.cast_le.mpr (valueAt_strictMono.monotone h)

/-- Rounding looks the same from below. -/
theorem IsNearestPlace.neg {x : ℝ} {n : ℤ} (h : IsNearestPlace x n) : IsNearestPlace (-x) (-n) := by
  obtain ⟨hlower, hupper⟩ := h
  constructor
  · intro hn
    obtain ⟨hle, htie⟩ := hupper (by omega)
    rw [show -n - 1 = -(n + 1) by ring, valueAt_neg, valueAt_neg, even_neg]
    push_cast at hle htie ⊢
    exact ⟨by linarith, fun heq => htie (by linarith)⟩
  · intro hn
    obtain ⟨hle, htie⟩ := hlower (by omega)
    rw [show -n + 1 = -(n - 1) by ring, valueAt_neg, valueAt_neg, even_neg]
    push_cast at hle htie ⊢
    exact ⟨by linarith, fun heq => htie (by linarith)⟩

/-- At or above the value at place `n`, only the midpoint to the next value matters. -/
theorem isNearestPlace_of_valueAt_le {x : ℝ} {n : ℤ} (hle : valueAt n ≤ x)
    (hupper : n < 0x7F7FFFFF → 2 * x ≤ ((valueAt n + valueAt (n + 1) : ℚ) : ℝ) ∧
      (((valueAt n + valueAt (n + 1) : ℚ) : ℝ) = 2 * x → Even n)) : IsNearestPlace x n := by
  refine ⟨fun _ => ?_, hupper⟩
  have hlt := valueAt_cast_lt (sub_one_lt n)
  push_cast
  exact ⟨by linarith, fun heq => by linarith⟩

/-- At or below the value at place `n`, only the midpoint from the value before matters. -/
theorem isNearestPlace_of_le_valueAt {x : ℝ} {n : ℤ} (hle : x ≤ valueAt n)
    (hlower : ((valueAt (n - 1) + valueAt n : ℚ) : ℝ) ≤ 2 * x ∧
      (((valueAt (n - 1) + valueAt n : ℚ) : ℝ) = 2 * x → Even n)) : IsNearestPlace x n := by
  refine ⟨fun _ => hlower, fun _ => ?_⟩
  have hlt := valueAt_cast_lt (lt_add_one n)
  push_cast
  exact ⟨by linarith, fun heq => by linarith⟩

/-- Over all finite values: those below are no nearer than place `n` when the next one below is not. -/
theorem IsNearestPlace.of_lt {x : ℝ} {m n : ℤ} (h : IsNearestPlace x n) (hm : -0x7F7FFFFF ≤ m) (hmn : m < n) :
    (valueAt m + valueAt n : ℝ) ≤ 2 * x ∧ ((valueAt m + valueAt n : ℝ) = 2 * x → Even n) := by
  obtain ⟨hle, htie⟩ := h.1 (by omega)
  have hmono := valueAt_cast_le (show m ≤ n - 1 by omega)
  push_cast at hle htie
  exact ⟨by linarith, fun heq => htie (by linarith)⟩

theorem IsNearestPlace.of_gt {x : ℝ} {m n : ℤ} (h : IsNearestPlace x n) (hm : m ≤ 0x7F7FFFFF) (hmn : n < m) :
    2 * x ≤ (valueAt n + valueAt m : ℝ) ∧ ((valueAt n + valueAt m : ℝ) = 2 * x → Even n) := by
  obtain ⟨hle, htie⟩ := h.2 (by omega)
  have hmono := valueAt_cast_le (show n + 1 ≤ m by omega)
  push_cast at hle htie
  exact ⟨by linarith, fun heq => htie (by linarith)⟩

/-- No two places are nearest: of two neighbours with `x` on their midpoint one is odd. -/
theorem IsNearestPlace.not_lt {x : ℝ} {m n : ℤ} (hm : IsNearestPlace x m) (hn : IsNearestPlace x n)
    (hlo : -0x7F7FFFFF ≤ m) (hhi : n ≤ 0x7F7FFFFF) : ¬ m < n := by
  intro hmn
  obtain ⟨hup, htieUp⟩ := hm.of_gt (show m + 1 ≤ 0x7F7FFFFF by omega) (lt_add_one m)
  obtain ⟨hdown, htieDown⟩ := hn.of_lt hlo hmn
  rcases (show m + 1 ≤ n from hmn).lt_or_eq with hfar | rfl
  · have hmono := valueAt_cast_lt hfar
    linarith
  · exact Int.even_add_one.mp (htieDown (le_antisymm hdown hup)) (htieUp (le_antisymm hdown hup))

/-- What is nearest among all finite values is nearest among its two neighbours. -/
theorem IsRN32.isNearestPlace {x : ℝ} {p : Word} (h : IsRN32 x p) : IsNearestPlace x (ordinal32 p) := by
  obtain ⟨hfin, hnear, htie, -⟩ := h
  obtain ⟨hlo, hhi⟩ := ordinal32_bounds hfin
  rw [fracField_even_iff] at htie
  constructor
  · intro hn
    obtain ⟨q, hq, hord⟩ := exists_finite_ordinal32_eq (n := ordinal32 p - 1) (by omega) (by omega)
    have hlt := valueAt_cast_lt (sub_one_lt (ordinal32 p))
    have hle := hnear q hq
    have heven := htie q hq (by rw [Ne, f32_inj_iff]; omega)
    rw [f32_eq_valueAt, f32_eq_valueAt, hord] at hle heven
    rw [abs_upper_sub_le_iff hlt] at hle
    rw [abs_sub_eq_iff hlt] at heven
    exact_mod_cast And.intro hle heven
  · intro hn
    obtain ⟨q, hq, hord⟩ := exists_finite_ordinal32_eq (n := ordinal32 p + 1) (by omega) (by omega)
    have hlt := valueAt_cast_lt (lt_add_one (ordinal32 p))
    have hle := hnear q hq
    have heven := htie q hq (by rw [Ne, f32_inj_iff]; omega)
    rw [f32_eq_valueAt, f32_eq_valueAt, hord] at hle heven
    rw [abs_lower_sub_le_iff hlt] at hle
    rw [eq_comm, abs_sub_eq_iff hlt] at heven
    exact_mod_cast And.intro hle heven

/-- The nearest place against every finite pattern, for the distance and for a tie. -/
theorem IsNearestPlace.abs_f32_sub_le {x : ℝ} {p q : Word} (h : IsNearestPlace x (ordinal32 p))
    (hq : isFinite32 q = true) :
    |((f32 p : ℚ) : ℝ) - x| ≤ |((f32 q : ℚ) : ℝ) - x| ∧
      (f32 q ≠ f32 p → |((f32 q : ℚ) : ℝ) - x| = |((f32 p : ℚ) : ℝ) - x| → Even (ordinal32 p)) := by
  obtain ⟨hlo, hhi⟩ := ordinal32_bounds hq
  rw [Ne, f32_inj_iff, f32_eq_valueAt, f32_eq_valueAt]
  rcases lt_trichotomy (ordinal32 q) (ordinal32 p) with hlt | heq | hgt
  · obtain ⟨hle, htie⟩ := h.of_lt hlo hlt
    rw [abs_upper_sub_le_iff (valueAt_cast_lt hlt), abs_sub_eq_iff (valueAt_cast_lt hlt)]
    exact ⟨hle, fun _ => htie⟩
  · exact ⟨by rw [heq], fun hne => absurd heq hne⟩
  · obtain ⟨hle, htie⟩ := h.of_gt hhi hgt
    rw [abs_lower_sub_le_iff (valueAt_cast_lt hgt), eq_comm (a := |_|), abs_sub_eq_iff (valueAt_cast_lt hgt)]
    exact ⟨hle, fun _ => htie⟩

/-- Correct rounding by places: only the two neighbours need a comparison. -/
theorem isRN32_iff {x : ℝ} {p : Word} :
    IsRN32 x p ↔
      isFinite32 p = true ∧ IsNearestPlace x (ordinal32 p) ∧ (f32 p = 0 → (signBit p = true ↔ x < 0)) := by
  constructor
  · intro h
    have hplace := h.isNearestPlace
    obtain ⟨hfin, -, -, hzero⟩ := h
    exact ⟨hfin, hplace, hzero⟩
  · rintro ⟨hfin, hplace, hzero⟩
    refine ⟨hfin, fun q hq => (hplace.abs_f32_sub_le hq).1, fun q hq => ?_, hzero⟩
    rw [fracField_even_iff]
    exact (hplace.abs_f32_sub_le hq).2

/-- Two roundings of `x` stand at one place; at the place of the two zeros the sign of `x` tells which it is. -/
theorem IsRN32.unique {x : ℝ} {p q : Word} (hp : IsRN32 x p) (hq : IsRN32 x q) : p = q := by
  obtain ⟨hpfin, hpplace, hpzero⟩ := isRN32_iff.mp hp
  obtain ⟨hqfin, hqplace, hqzero⟩ := isRN32_iff.mp hq
  obtain ⟨hplo, hphi⟩ := ordinal32_bounds hpfin
  obtain ⟨hqlo, hqhi⟩ := ordinal32_bounds hqfin
  have hord : ordinal32 p = ordinal32 q :=
    le_antisymm (Int.not_lt.mp (hqplace.not_lt hpplace hqlo hphi)) (Int.not_lt.mp (hpplace.not_lt hqplace hplo hqhi))
  refine eq_of_ordinal32_eq hord (Bool.eq_iff_iff.mpr ?_)
  by_cases hz : f32 p = 0
  · rw [hpzero hz, hqzero (f32_inj_iff.mpr hord ▸ hz)]
  · rw [f32_eq_zero_iff] at hz
    rw [signBit_iff_ordinal32_neg hz, hord, signBit_iff_ordinal32_neg (hord ▸ hz)]

/-! The rounding function on rationals (R86). -/

/-- The shift leaves a significand of at most 24 bits, of exactly 24 where it drops any. -/
theorem div_two_pow_significandShift (q : Nat) :
    q / 2 ^ significandShift q < 2 ^ 24 ∧ (significandShift q = 0 ∨ 2 ^ 23 ≤ q / 2 ^ significandShift q) := by
  rw [significandShift]
  split
  next hsmall => exact ⟨by rwa [pow_zero, Nat.div_one], .inl rfl⟩
  next hlarge =>
    have hne : q ≠ 0 := by omega
    have hlog : 24 ≤ Nat.log2 q := (Nat.le_log2 hne).mpr (by omega)
    rw [Nat.div_lt_iff_lt_mul (by positivity), Nat.le_div_iff_mul_le (by positivity), ← pow_add, ← pow_add,
      show 24 + (Nat.log2 q - 23) = Nat.log2 q + 1 by omega, show 23 + (Nat.log2 q - 23) = Nat.log2 q by omega]
    exact ⟨Nat.lt_log2_self, .inr (Nat.log2_self_le hne)⟩

/-- The rounded pattern is one of the two around `a / d`, the one on this side of their midpoint, at the midpoint the even
one. -/
theorem roundedPattern_cases (a : Nat) {d : Nat} (hd : 0 < d) :
    ∃ n, magnitudeAt n * d ≤ a ∧ a < magnitudeAt (n + 1) * d ∧
      ((roundedPattern a d = n ∧ 2 * a ≤ (magnitudeAt n + magnitudeAt (n + 1)) * d ∧
          ((magnitudeAt n + magnitudeAt (n + 1)) * d = 2 * a → Even n)) ∨
        (roundedPattern a d = n + 1 ∧ (magnitudeAt n + magnitudeAt (n + 1)) * d ≤ 2 * a ∧
          ((magnitudeAt n + magnitudeAt (n + 1)) * d = 2 * a → Even (n + 1)))) := by
  obtain ⟨hlt, hnormal⟩ := div_two_pow_significandShift (a / d)
  rw [roundedPattern]
  generalize significandShift (a / d) = e at hlt hnormal ⊢
  rw [Nat.div_div_eq_div_mul] at hlt hnormal
  have hdiv := Nat.div_add_mod' a (d * 2 ^ e)
  have hmod := Nat.mod_lt a (show 0 < d * 2 ^ e by positivity)
  have hround := roundHalfEven_cases a (d * 2 ^ e)
  generalize a / (d * 2 ^ e) = f at hlt hnormal hdiv hround
  generalize a % (d * 2 ^ e) = r at hdiv hmod hround
  have heven : Even (e * 2 ^ 23) := (Nat.even_pow.mpr ⟨even_two, by decide⟩).mul_left e
  refine ⟨e * 2 ^ 23 + f, ?_⟩
  rw [add_assoc, magnitudeAt_shift hlt.le hnormal, magnitudeAt_shift hlt (by omega),
    show f * 2 ^ e * d = f * (d * 2 ^ e) by ring, show (f + 1) * 2 ^ e * d = f * (d * 2 ^ e) + d * 2 ^ e by ring,
    show (f * 2 ^ e + (f + 1) * 2 ^ e) * d = 2 * (f * (d * 2 ^ e)) + d * 2 ^ e by ring]
  refine ⟨by omega, by omega, ?_⟩
  rcases hround with ⟨hr, hle, htie⟩ | ⟨hr, hle, htie⟩
  · exact .inl ⟨by rw [hr], by omega, fun heq => heven.add (htie (by omega))⟩
  · exact .inr ⟨by rw [hr], by omega, fun heq => heven.add (htie (by omega))⟩

theorem magnitudeAt_succ_greatest : magnitudeAt (0x7F7FFFFF + 1) = 2 ^ 128 * 2 ^ 149 := by
  decide +kernel

/-- The same for the values: `a / d` against the two around it and their midpoint. -/
theorem valueAt_roundedPattern_cases (a : Nat) {d : Nat} (hd : 0 < d) :
    ∃ n : ℕ, valueAt n ≤ a / d ∧ (a / d : ℚ) < valueAt (n + 1) ∧
      ((roundedPattern (a * 2 ^ 149) d = n ∧ 2 * (a / d) ≤ valueAt n + valueAt (n + 1) ∧
          (valueAt n + valueAt (n + 1) = 2 * (a / d) → Even n)) ∨
        (roundedPattern (a * 2 ^ 149) d = n + 1 ∧ valueAt n + valueAt (n + 1) ≤ 2 * (a / d) ∧
          (valueAt n + valueAt (n + 1) = 2 * (a / d) → Even (n + 1)))) := by
  obtain ⟨n, hcases⟩ := roundedPattern_cases (a * 2 ^ 149) hd
  have hunit : (0 : ℚ) < d * 2 ^ 149 := by positivity
  have hvalue (m : ℕ) : valueAt m = (magnitudeAt m * d : ℕ) / (d * 2 ^ 149) := by
    rw [valueAt_natCast]
    push_cast
    field_simp
  have hx : (a : ℚ) / d = (a * 2 ^ 149 : ℕ) / (d * 2 ^ 149) := by
    rw [Nat.cast_mul, Nat.cast_pow, Nat.cast_ofNat, mul_div_mul_right _ _ (by positivity)]
  refine ⟨n, ?_⟩
  rw [show valueAt ((n : ℤ) + 1) = valueAt ((n + 1 : ℕ) : ℤ) by norm_cast, hvalue, hvalue, hx, ← add_div, ← mul_div_assoc,
    div_le_div_iff_of_pos_right hunit, div_lt_div_iff_of_pos_right hunit, div_le_div_iff_of_pos_right hunit,
    div_le_div_iff_of_pos_right hunit, div_left_inj' hunit.ne']
  rw [add_mul] at hcases
  exact_mod_cast hcases

theorem isNearestPlace_nearestMagnitude {a d : Nat} (hd : 0 < d) (hlt : a < 2 ^ 128 * d) :
    IsNearestPlace ((a / d : ℚ) : ℝ) (nearestMagnitude a d) := by
  obtain ⟨n, hlo, hhi, hround⟩ := valueAt_roundedPattern_cases a hd
  have hn : n ≤ 0x7F7FFFFF := by
    by_contra hgt
    have hmono := valueAt_strictMono.monotone (show ((0x7F7FFFFF + 1 : ℕ) : ℤ) ≤ n by omega)
    have hbound : (a / d : ℚ) < 2 ^ 128 := by
      rw [div_lt_iff₀ (by exact_mod_cast hd)]
      exact_mod_cast hlt
    rw [valueAt_natCast, magnitudeAt_succ_greatest, Nat.cast_mul] at hmono
    push_cast at hmono
    linarith
  rw [nearestMagnitude]
  rcases hround with ⟨hr, hle, htie⟩ | ⟨hr, hle, htie⟩
  · rw [hr, min_eq_left hn]
    exact isNearestPlace_of_valueAt_le (by exact_mod_cast hlo) fun _ => by exact_mod_cast And.intro hle htie
  · rw [hr]
    rcases hn.lt_or_eq with hlt | rfl
    · rw [min_eq_left hlt]
      refine isNearestPlace_of_le_valueAt (by exact_mod_cast hhi.le) ?_
      rw [Nat.cast_succ, add_sub_cancel_right]
      exact_mod_cast And.intro hle htie
    · rw [min_eq_right (Nat.le_succ _)]
      exact isNearestPlace_of_valueAt_le (by exact_mod_cast hlo) fun hlt => absurd hlt (by decide)

/-- Below `2^128` in magnitude the function has the pattern that is the nearest one. -/
theorem isRN32_of_rn32 {x : ℚ} (hx : |x| < 2 ^ 128) : ∃ p, rn32 x = some p ∧ IsRN32 (x : ℝ) p := by
  have habs : |x| = (x.num.natAbs / x.den : ℚ) := by
    rw [Rat.abs_def, Rat.divInt_eq_div, Int.cast_natCast, Int.cast_natCast]
  have hlt : x.num.natAbs < 2 ^ 128 * x.den := by
    rw [habs, div_lt_iff₀ (by exact_mod_cast x.den_pos)] at hx
    exact_mod_cast hx
  have hplace := isNearestPlace_nearestMagnitude x.den_pos hlt
  have hgreatest : nearestMagnitude x.num.natAbs x.den ≤ 0x7F7FFFFF := min_le_right _ _
  rw [← habs] at hplace
  rw [rn32, if_neg (Nat.not_le.mpr hlt)]
  rcases lt_or_ge x 0 with hneg | hnonneg
  · obtain ⟨hfin, hsign, hord⟩ := signed_pattern hgreatest
    have hxneg : (x : ℝ) < 0 := by exact_mod_cast hneg
    refine ⟨_, if_pos (Rat.num_neg.mpr hneg), isRN32_iff.mpr ⟨hfin, ?_, fun _ => iff_of_true hsign hxneg⟩⟩
    rw [abs_of_neg hneg] at hplace
    rw [hord, ← neg_neg (x : ℝ), ← Rat.cast_neg]
    exact hplace.neg
  · obtain ⟨hfin, hsign, hord⟩ := ofNat_pattern hgreatest
    refine ⟨_, if_neg (mt Rat.num_neg.mp hnonneg.not_gt), isRN32_iff.mpr ⟨hfin, ?_, fun _ => iff_of_false ?_ ?_⟩⟩
    · rwa [abs_of_nonneg hnonneg, ← hord] at hplace
    · exact ne_true_of_eq_false hsign
    · exact_mod_cast hnonneg.not_gt

/-! The value by the fields (R85). -/

theorem f32_subnormal {p : Word} (he : expField p = 0) :
    f32 p = (if signBit p then -1 else 1) * (2 : ℚ) ^ (-126 : ℤ) * (fracField p / 2 ^ 23) := by
  rw [f32, magnitude32, if_pos he, mul_assoc, show (2 : ℚ) ^ (-126 : ℤ) = 2 ^ 23 / 2 ^ 149 by norm_num]
  congr 1
  field_simp

theorem f32_normal {p : Word} (he : 1 ≤ expField p) :
    f32 p = (if signBit p then -1 else 1) * (2 : ℚ) ^ ((expField p : ℤ) - 127) * (1 + fracField p / 2 ^ 23) := by
  obtain ⟨e, he'⟩ := Nat.exists_eq_add_of_le' he
  have hscale : (2 : ℚ) ^ ((expField p : ℤ) - 127) = 2 ^ e * 2 ^ 23 / 2 ^ 149 := by
    rw [he', show ((e + 1 : ℕ) : ℤ) - 127 = (e : ℤ) - 126 by omega, zpow_sub₀ two_ne_zero, zpow_natCast]
    norm_num
    ring
  rw [hscale, f32, magnitude32, if_neg (Nat.ne_of_gt he), he', Nat.add_sub_cancel, mul_assoc]
  congr 1
  push_cast
  ring

/-! The carrier samples (R87, R91, R92, R95). -/

theorem isRN32_zero_iff {p : Word} : IsRN32 0 p ↔ p = 0x00000000#32 := by
  have hzero : IsRN32 0 0x00000000#32 := by
    have hord : ordinal32 0x00000000#32 = 0 := by decide
    refine isRN32_iff.mpr ⟨by decide, ?_, fun _ => iff_of_false (by decide) (lt_irrefl 0)⟩
    rw [hord]
    refine isNearestPlace_of_valueAt_le (by rw [valueAt_zero, Rat.cast_zero]) fun _ => ⟨?_, fun _ => Even.zero⟩
    have hlt := valueAt_cast_lt one_pos
    rw [valueAt_zero, Rat.cast_zero] at hlt
    rw [valueAt_zero, zero_add, zero_add, mul_zero]
    exact hlt.le
  exact ⟨fun h => h.unique hzero, fun h => h ▸ hzero⟩

theorem isCarrierSample_of_product_zero {c : Config} {k : Nat}
    (h : ((f32 c.amp : ℚ) : ℝ) * Real.sin (2 * Real.pi * ((phase c k : ℚ) : ℝ)) = 0) (p : Word) :
    IsCarrierSample c k p ↔ p = 0x00000000#32 := by
  rw [IsCarrierSample, h, isRN32_zero_iff]

theorem isCarrierSample_zero_iff (c : Config) (p : Word) : IsCarrierSample c 0 p ↔ p = 0x00000000#32 :=
  isCarrierSample_of_product_zero (by rw [phase_zero, Rat.cast_zero, mul_zero, Real.sin_zero, mul_zero]) p

theorem isCarrierSample_of_amp_zero {c : Config} (hamp : c.amp = 0x00000000#32) (k : Nat) (p : Word) :
    IsCarrierSample c k p ↔ p = 0x00000000#32 :=
  isCarrierSample_of_product_zero (by rw [hamp, f32_zero, Rat.cast_zero, zero_mul]) p

/-- Rounding does not pass a finite value: a real between `F32(q)` and its negative rounds to a value between them. -/
theorem IsRN32.abs_f32_le {x : ℝ} {p q : Word} (h : IsRN32 x p) (hq : isFinite32 q = true)
    (hx : |x| ≤ ((f32 q : ℚ) : ℝ)) : |f32 p| ≤ f32 q := by
  obtain ⟨hfin, hplace, -⟩ := isRN32_iff.mp h
  obtain ⟨hlo, hhi⟩ := ordinal32_bounds hfin
  obtain ⟨hqlo, hqhi⟩ := ordinal32_bounds hq
  obtain ⟨hxlo, hxhi⟩ := abs_le.mp hx
  rw [f32_eq_valueAt] at hxlo hxhi
  rw [f32_eq_valueAt, f32_eq_valueAt, abs_le, ← valueAt_neg, valueAt_strictMono.le_iff_le, valueAt_strictMono.le_iff_le]
  constructor
  · by_contra hlt
    have hlt := not_le.mp hlt
    have hmid := (hplace.of_gt (m := -ordinal32 q) (by omega) hlt).1
    have hval := valueAt_cast_lt hlt
    rw [valueAt_neg, Rat.cast_neg] at hmid hval
    linarith
  · by_contra hlt
    have hlt := not_le.mp hlt
    have hmid := (hplace.of_lt hqlo hlt).1
    have hval := valueAt_cast_lt hlt
    linarith

/-- A legal amplitude is finite and its value is its magnitude. -/
theorem ampLegal_parts {c : Config} (h : c.ampLegal = true) : isFinite32 c.amp = true ∧ signBit c.amp = false := by
  simpa [Config.ampLegal] using h

theorem IsCarrierSample.abs_f32_le {c : Config} {k : Nat} {p : Word} (hamp : c.ampLegal = true)
    (h : IsCarrierSample c k p) : |f32 p| ≤ f32 c.amp := by
  obtain ⟨hfin, hsign⟩ := ampLegal_parts hamp
  have hnonneg : (0 : ℝ) ≤ (f32 c.amp : ℚ) := by
    rw [f32_of_signBit_false hsign]
    positivity
  refine IsRN32.abs_f32_le h hfin ?_
  rw [abs_mul, abs_of_nonneg hnonneg]
  exact mul_le_of_le_one_right hnonneg (Real.abs_sin_le_one _)

/-! The carrier table and what the machine sends of it (R88, R91, R94, R95). -/

theorem abs_f32_le_amp_iff {c : Config} (hamp : c.ampLegal = true) (p : Word) :
    |f32 p| ≤ f32 c.amp ↔ magnitude32 p ≤ magnitude32 c.amp := by
  rw [abs_f32, f32_of_signBit_false (ampLegal_parts hamp).2, div_le_div_iff_of_pos_right (by positivity), Nat.cast_le]

/-- A sample of a buffer is silence, or the entry of the carrier table at its index in its symbol (R89, R107). -/
theorem sampleAt_silence_or_carrier {s : State} {n : Nat} {v : Word} (h : sampleAt s n = .ok v) :
    v = silence ∨ s.cfg.carrier[n % unitLen s % sps s.cfg]? = some v := by
  obtain ⟨-, ⟨-, hsymbol⟩ | ⟨-, hpause⟩⟩ := sampleAt_ok h
  · obtain ⟨b, -, hkey⟩ := symbolSample_ok.mp hsymbol
    cases b
    · exact .inl (by simpa [key, eq_comm] using hkey)
    · exact .inr (by simpa [key] using hkey)
  · exact .inl hpause

theorem entryInRange_silence {c : Config} (hamp : c.ampLegal = true) :
    isFinite32 silence = true ∧ |f32 silence| ≤ f32 c.amp := by
  rw [abs_f32_le_amp_iff hamp]
  exact ⟨by decide, by simp [show magnitude32 silence = 0 by decide]⟩

theorem sampleAt_inRange {s : State} {n : Nat} {v : Word} (hc : s.cfg.wellFormed = true) (h : sampleAt s n = .ok v) :
    isFinite32 v = true ∧ |f32 v| ≤ f32 s.cfg.amp ∧ (s.cfg.amp = 0x00000000#32 → v = 0x00000000#32) ∧
      (n % unitLen s % sps s.cfg = 0 → v = 0x00000000#32) := by
  obtain ⟨-, -, hamp, -, -, -⟩ := Config.wellFormed_parts _ hc
  obtain ⟨hfirst, hrange, hsilent⟩ := Config.wellFormed_table _ hc
  rcases sampleAt_silence_or_carrier h with rfl | hentry
  · obtain ⟨hfin, hle⟩ := entryInRange_silence hamp
    exact ⟨hfin, hle, fun _ => rfl, fun _ => rfl⟩
  · have hmem := List.mem_of_getElem? hentry
    obtain ⟨hfin, hle⟩ := hrange v hmem
    exact ⟨hfin, (abs_f32_le_amp_iff hamp v).mpr hle, fun ha => hsilent ha v hmem, fun hk => hfirst v (hk ▸ hentry)⟩

/-- Of the two patterns of value zero, neither is a neighbour of `+0.0`. -/
theorem not_adjacent32_zero {p : Word} (hp : f32 p = 0) : adjacent32 p 0x00000000#32 = false := by
  rw [f32_eq_zero_iff] at hp
  rw [adjacent32, hp, show ordinal32 0x00000000#32 = 0 by decide]
  simp

/-- In a conforming table of amplitude `+0.0` an entry is `+0.0` itself: `-0.0` is in the range but no neighbour. -/
theorem Conforms.eq_zero_of_amp_zero {c : Config} (h : Conforms c) (hamp : c.amp = 0x00000000#32)
    {p : Word} (hp : p ∈ c.carrier) : p = 0x00000000#32 := by
  obtain ⟨-, -, hrange, hnear⟩ := h
  obtain ⟨k, hk⟩ := List.mem_iff_getElem?.mp hp
  obtain ⟨q, hq, hcase⟩ := hnear k p hk
  obtain rfl := (isCarrierSample_of_amp_zero hamp k q).mp hq
  have hzero : f32 p = 0 := by
    have hle := (hrange p hp).2
    rwa [hamp, f32_zero, abs_nonpos_iff] at hle
  rcases hcase with heq | hadj
  · exact heq
  · rw [not_adjacent32_zero hzero] at hadj
    contradiction

theorem Conforms.tableAdmissible {c : Config} (hamp : c.ampLegal = true) (h : Conforms c) : tableAdmissible c = true := by
  have hsilent : silentIfNoAmplitude c = true := by
    rw [silentIfNoAmplitude, Bool.or_eq_true, bne_iff_ne, List.all_eq_true, or_iff_not_imp_left, not_not]
    exact fun ha p hp => beq_iff_eq.mpr (h.eq_zero_of_amp_zero ha hp)
  obtain ⟨-, hfirst, hrange, -⟩ := h
  have hstart : startsSilent c = true := by
    rw [startsSilent]
    split
    next => rfl
    next p ps hps => exact beq_iff_eq.mpr (hfirst p (by rw [hps]; rfl))
  have hall : c.carrier.all (entryInRange c) = true := by
    rw [List.all_eq_true]
    intro p hp
    obtain ⟨hfin, hle⟩ := hrange p hp
    rw [entryInRange, hfin, Bool.true_and, decide_eq_true_eq]
    exact (abs_f32_le_amp_iff hamp p).mp hle
  rw [Machine.tableAdmissible, hstart, hall, hsilent]
  rfl

/-! The carrier samples of TOY2 (R87): half the sine at the sixths of a turn. -/

theorem sps_toy2 : sps toy2 = 4 := by decide

theorem phase_toy2 (k : Nat) : phase toy2 k = k / 6 := by
  rw [phase, sampleTime_of_two_le (by simp [sps_toy2]), sps_toy2, show toy2.fcHz = 1 from rfl,
    show toy2.symRate = 2 from rfl]
  push_cast
  ring

theorem f32_toy2_amp : f32 toy2.amp = 1 / 2 := by
  rw [f32_normal (by decide), show signBit toy2.amp = false by decide, show expField toy2.amp = 126 by decide,
    show fracField toy2.amp = 0 by decide]
  norm_num

/-- The real number that entry `k` of TOY2 rounds. -/
theorem isCarrierSample_toy2_iff (k : Nat) (p : Word) :
    IsCarrierSample toy2 k p ↔ IsRN32 (1 / 2 * Real.sin (k * (Real.pi / 3))) p := by
  rw [IsCarrierSample, f32_toy2_amp, phase_toy2]
  push_cast
  rw [show 2 * Real.pi * ((k : ℝ) / 6) = k * (Real.pi / 3) by ring]

/-- The values from a quarter up to a half are the multiples of `2^(-25)`. -/
theorem valueAt_of_quarter {r : Nat} (hlo : 2 ^ 23 ≤ r) (hhi : r ≤ 2 ^ 24) :
    valueAt (124 * 2 ^ 23 + r : ℕ) = r / 2 ^ 25 := by
  rw [valueAt_natCast, magnitudeAt_shift hhi (.inr hlo)]
  push_cast
  ring

/-- `0x3EDDB3D7`, of significand `14529495`, is the value nearest to `sqrt(3) / 4`. -/
theorem isRN32_quarter_sqrt_three : IsRN32 (1 / 2 * (√3 / 2)) 0x3EDDB3D7#32 := by
  have hlo : (14529495 / 2 ^ 23 : ℝ) ≤ √3 := Real.le_sqrt_of_sq_le (by norm_num)
  have hhi : √3 < (14529495 + 14529496 : ℝ) / 2 ^ 24 := (Real.sqrt_lt' (by norm_num)).mpr (by norm_num)
  have hord : ordinal32 0x3EDDB3D7#32 = (124 * 2 ^ 23 + 14529495 : ℕ) := by decide
  have hvalue : valueAt (124 * 2 ^ 23 + 14529495 : ℕ) = 14529495 / 2 ^ 25 :=
    valueAt_of_quarter (by norm_num) (by norm_num)
  have hnext : valueAt ((124 * 2 ^ 23 + 14529495 : ℕ) + 1) = 14529496 / 2 ^ 25 :=
    valueAt_of_quarter (r := 14529496) (by norm_num) (by norm_num)
  refine isRN32_iff.mpr ⟨by decide, ?_, fun h => absurd (f32_eq_zero_iff.mp h) (by decide)⟩
  rw [hord]
  refine isNearestPlace_of_valueAt_le ?_ fun _ => ?_
  · rw [hvalue]
    push_cast
    linarith
  · rw [hvalue, hnext]
    push_cast
    exact ⟨by linarith, fun heq => by linarith⟩

theorem isCarrierSample_toy2 {k : Nat} {p : Word} (h : toy2.carrier[k]? = some p) : IsCarrierSample toy2 k p := by
  rw [isCarrierSample_toy2_iff]
  match k with
  | 0 =>
    obtain rfl : 0x00000000 = p := Option.some.inj h
    rw [Nat.cast_zero, zero_mul, Real.sin_zero, mul_zero]
    exact isRN32_zero_iff.mpr rfl
  | 1 =>
    obtain rfl : 0x3EDDB3D7 = p := Option.some.inj h
    rw [Nat.cast_one, one_mul, Real.sin_pi_div_three]
    exact isRN32_quarter_sqrt_three
  | 2 =>
    obtain rfl : 0x3EDDB3D7 = p := Option.some.inj h
    rw [Nat.cast_two, show 2 * (Real.pi / 3) = Real.pi - Real.pi / 3 by ring, Real.sin_pi_sub, Real.sin_pi_div_three]
    exact isRN32_quarter_sqrt_three
  | 3 =>
    obtain rfl : 0x00000000 = p := Option.some.inj h
    rw [Nat.cast_ofNat, mul_div_cancel₀ _ three_ne_zero, Real.sin_pi, mul_zero]
    exact isRN32_zero_iff.mpr rfl
  | k + 4 => cases h

theorem conforms_toy2 : Conforms toy2 := by
  obtain ⟨-, -, hamp, -, hlength, -⟩ := Config.wellFormed_parts _ toy2_wellFormed
  obtain ⟨hfirst, hrange, -⟩ := Config.wellFormed_table _ toy2_wellFormed
  refine ⟨hlength, hfirst, fun p hp => ?_, fun k p hp => ⟨p, isCarrierSample_toy2 hp, .inl rfl⟩⟩
  obtain ⟨hfin, hle⟩ := hrange p hp
  exact ⟨hfin, (abs_f32_le_amp_iff hamp p).mpr hle⟩

/-! The normative table (R88, R94). -/

/-- A magnitude within `AMP` is a pattern within `AMP`. -/
theorem lowBits_le_amp {c : Config} {p : Word} (h : magnitude32 p ≤ magnitude32 c.amp) :
    (p.extractLsb' 0 31).toNat ≤ c.amp.toNat := by
  rw [magnitude32_eq, magnitude32_eq, magnitudeAt_strictMono.le_iff_le, toNat_lowBits c.amp] at h
  exact h.trans (Nat.mod_le _ _)

theorem dsrDefault_positive_entries : (dsrDefault.carrier.filter (fun p => !signBit p && p != 0)).length = 1213 := by
  decide +kernel

theorem dsrDefault_negative_entries : (dsrDefault.carrier.filter signBit).length = 1203 := by
  decide +kernel

theorem dsrDefault_last_entry : dsrDefault.carrier[2416]? = some 0xBED2B203#32 := by
  decide +kernel

end Sys2Proof.Machine

namespace Sys2Proof.Safety

open Sys2Proof.Machine

/-- Settles O46. -/
theorem binaryValueByFields : Obligations.BinaryValueByFields := by
  refine ⟨fun p _ => ⟨f32_subnormal, f32_normal⟩, f32_zero, f32_eq_zero_iff.mpr (by decide), ?_, ?_⟩
  · rw [f32_normal (by decide), show signBit 0x3F800000#32 = false by decide, show expField 0x3F800000#32 = 127 by decide,
      show fracField 0x3F800000#32 = 0 by decide]
    norm_num
  · rw [f32_normal (by decide), show signBit 0xBF800000#32 = true by decide, show expField 0xBF800000#32 = 127 by decide,
      show fracField 0xBF800000#32 = 0 by decide]
    norm_num

/-- Settles O47. -/
theorem rationalRoundingIsCorrect : Obligations.RationalRoundingIsCorrect := fun _ => isRN32_of_rn32

/-- Settles O48. -/
theorem roundingHasOneAnswer : Obligations.RoundingHasOneAnswer := fun _ _ _ => IsRN32.unique

/-- Settles O49: `|AMP * sin| <= AMP`, and `AMP` is itself a finite value. -/
theorem carrierSampleBounded : Obligations.CarrierSampleBounded := fun _ _ _ => IsCarrierSample.abs_f32_le

/-- Settles O50. -/
theorem zeroCarrierSamples : Obligations.ZeroCarrierSamples :=
  ⟨isCarrierSample_zero_iff, fun _ k p hamp => isCarrierSample_of_amp_zero hamp k p⟩

/-- Settles O51. -/
theorem samplesStayInRange : Obligations.SamplesStayInRange := by
  refine ⟨fun s n v hc hv => ?_, fun c => Conforms.tableAdmissible⟩
  obtain ⟨hfin, hle, hsilent, hfirst⟩ := sampleAt_inRange hc hv
  exact ⟨hfin, hle, hsilent, fun _ => hfirst⟩

/-- Settles O52. -/
theorem smallTableConforms : Obligations.SmallTableConforms := ⟨conforms_toy2, fun _ _ => isCarrierSample_toy2⟩

/-- Settles O53. -/
theorem defaultTableFacts : Obligations.DefaultTableFacts := by
  obtain ⟨-, -, -, -, hlength, -⟩ := Config.wellFormed_parts _ dsrDefault_wellFormed
  obtain ⟨-, hrange, -⟩ := Config.wellFormed_table _ dsrDefault_wellFormed
  refine ⟨hlength, rfl, List.all_eq_true.mpr fun p hp => ?_, dsrDefault_positive_entries, dsrDefault_negative_entries,
    dsrDefault_last_entry⟩
  obtain ⟨hfin, hle⟩ := hrange p hp
  rw [hfin, Bool.true_and, decide_eq_true_eq]
  exact lowBits_le_amp hle

end Sys2Proof.Safety
end

section
/-! PROOF. Family 43_formatter.md: the waveform (O54), the frame (O55), the repeat policy (O56), the serialiser (O57), the
length of `Encode` (O36) and the samples at the positions of a buffer (O34). Waveform, frame and byte stream are each a
concatenation of pieces of one length, and one lemma says what stands at a position of such a concatenation. -/

namespace Sys2Proof.Machine

/-! Concatenations of pieces of one length, and traversals of a list. -/

theorem length_flatten_of_length {α : Type} {L : List (List α)} {m : Nat} (hL : ∀ l ∈ L, l.length = m) :
    L.flatten.length = L.length * m := by
  rw [List.length_flatten, List.sum_eq_card_nsmul _ m (List.forall_mem_map.mpr hL), List.length_map, smul_eq_mul]

/-- At offset `j` in piece `i` stands the entry `j` of the piece. -/
theorem getElem?_flatten_of_length {α : Type} {L : List (List α)} {m : Nat} (hL : ∀ l ∈ L, l.length = m) (i : Nat)
    {j : Nat} (hj : j < m) : L.flatten[i * m + j]? = L[i]?.bind (fun l => l[j]?) := by
  induction L generalizing i with
  | nil => rfl
  | cons l L ih =>
    obtain ⟨hl, hL⟩ := List.forall_mem_cons.mp hL
    rw [List.flatten_cons]
    cases i with
    | zero =>
      rw [Nat.zero_mul, Nat.zero_add, List.getElem?_append_left (hl ▸ hj), List.getElem?_cons_zero, Option.bind_some]
    | succ i =>
      have hoffset : (i + 1) * m + j = l.length + (i * m + j) := by rw [hl]; ring
      rw [hoffset, List.getElem?_append_right (Nat.le_add_right _ _), Nat.add_sub_cancel_left,
        List.getElem?_cons_succ, ih hL]

/-- A traversal has a value when the function has one at every element, and the value is those in order. -/
theorem mapM_eq_some_iff {α β : Type} {f : α → Option β} {l : List α} {r : List β} :
    l.mapM f = some r ↔ l.map f = r.map some := by
  induction l generalizing r with
  | nil => cases r <;> simp
  | cons x xs ih =>
    cases r with
    | nil => simp [Option.bind_eq_some_iff]
    | cons y ys => simp [Option.bind_eq_some_iff, ih]

theorem length_of_mapM {α β : Type} {f : α → Option β} {l : List α} {r : List β} (h : l.mapM f = some r) :
    r.length = l.length := by
  simpa using (congrArg List.length (mapM_eq_some_iff.mp h)).symm

theorem getElem?_of_mapM {α β : Type} {f : α → Option β} {l : List α} {r : List β} (h : l.mapM f = some r)
    {i : Nat} {y : β} (hy : r[i]? = some y) : ∃ x, l[i]? = some x ∧ f x = some y := by
  have hi := congrArg (·[i]?) (mapM_eq_some_iff.mp h)
  simpa [hy] using hi

theorem exists_mapM_eq_some_iff {α β : Type} {f : α → Option β} {l : List α} :
    (∃ r, l.mapM f = some r) ↔ ∀ x ∈ l, ∃ y, f x = some y := by
  have hrange := Set.ext_iff.mp (Set.range_list_map (some : β → Option β)) (l.map f)
  simp only [Set.mem_range, Set.mem_ofPred_eq, List.forall_mem_map] at hrange
  simpa only [mapM_eq_some_iff, eq_comm] using hrange

/-! Silence and the symbols (R14, R89, R97). -/

@[simp] theorem length_zeros (n : Nat) : (zeros n).length = n :=
  List.length_replicate

theorem getElem?_zeros {n j : Nat} (hj : j < n) : (zeros n)[j]? = some silence :=
  List.getElem?_replicate_of_lt hj

/-- The keyed carrier is the entry of the table, or silence (R89). -/
theorem eq_of_key {c : Config} {b : Bool} {k : Nat} {v : Word} (h : key c b k = some v) :
    v = if b then c.carrier.getD k 0 else silence := by
  cases b with
  | false => exact (Option.some.inj h).symm
  | true =>
    have hentry : c.carrier[k]? = some v := h
    rw [if_pos rfl, List.getD_eq_getElem?_getD, hentry, Option.getD_some]

/-- Every symbol, carrier or silent, is `SPS` samples long (R96). -/
theorem length_symbol {c : Config} (hc : c.wellFormed = true) (b : Bool) : (symbol c b).length = sps c := by
  obtain ⟨-, -, -, -, hlen, -⟩ := c.wellFormed_parts hc
  cases b with
  | false => exact length_zeros _
  | true => exact hlen

theorem getElem?_symbol {c : Config} (b : Bool) {k : Nat} (hk : k < sps c) : (symbol c b)[k]? = key c b k := by
  cases b with
  | false => exact getElem?_zeros hk
  | true => rfl

/-! The waveform (R98). -/

theorem length_of_mem_symbols {c : Config} (hc : c.wellFormed = true) (ls : List Bool) :
    ∀ l ∈ ls.map (symbol c), l.length = sps c :=
  List.forall_mem_map.mpr fun b _ => length_symbol hc b

theorem length_modulate {c : Config} (hc : c.wellFormed = true) (ls : List Bool) :
    (modulate c ls).length = ls.length * sps c := by
  rw [modulate, List.flatMap_def, length_flatten_of_length (length_of_mem_symbols hc ls), List.length_map]

/-- Sample `k` of symbol `i` is the carrier keyed by line bit `i`. -/
theorem getElem?_modulate {c : Config} (hc : c.wellFormed = true) (ls : List Bool) (i : Nat) {k : Nat}
    (hk : k < sps c) : (modulate c ls)[i * sps c + k]? = ls[i]?.bind (fun b => key c b k) := by
  rw [modulate, List.flatMap_def, getElem?_flatten_of_length (length_of_mem_symbols hc ls) i hk, List.getElem?_map,
    Option.bind_map]
  exact congrArg ls[i]?.bind (funext fun b => getElem?_symbol b hk)

/-- Sample `j` of a waveform is keyed by line bit `j div SPS` at index `j mod SPS`. -/
theorem modulate_sample {c : Config} (hc : c.wellFormed = true) {ls : List Bool} {j : Nat}
    (hj : j < ls.length * sps c) :
    ∃ b v, ls[j / sps c]? = some b ∧ key c b (j % sps c) = some v ∧ (modulate c ls)[j]? = some v := by
  have hsps : 0 < sps c := Nat.pos_of_mul_pos_left (Nat.zero_lt_of_lt hj)
  have hk : j % sps c < sps c := Nat.mod_lt _ hsps
  have hi : j / sps c < ls.length := (Nat.div_lt_iff_lt_mul hsps).mpr hj
  obtain ⟨v, hv⟩ := Option.ne_none_iff_exists'.mp (key_ne_none hc ls[j / sps c] hk)
  have hsample := getElem?_modulate hc ls (j / sps c) hk
  rw [Nat.div_add_mod', List.getElem?_eq_getElem hi, Option.bind_some, hv] at hsample
  exact ⟨ls[j / sps c], v, List.getElem?_eq_getElem hi, hv, hsample⟩

/-! The unit and the frame (R101, R102). -/

theorem length_unitOf (w : List Word) (pause : Nat) : (unitOf w pause).length = w.length + pause := by
  rw [unitOf, List.length_append, length_zeros]

theorem getElem?_unitOf_of_lt {w : List Word} {j : Nat} (hj : j < w.length) (pause : Nat) :
    (unitOf w pause)[j]? = w[j]? :=
  List.getElem?_append_left hj

theorem getElem?_unitOf_of_le {w : List Word} {pause j : Nat} (hw : w.length ≤ j) (hj : j < w.length + pause) :
    (unitOf w pause)[j]? = some silence := by
  rw [unitOf, List.getElem?_append_right hw, getElem?_zeros (by omega)]

theorem length_of_mem_units (w : List Word) (pause rpt : Nat) :
    ∀ l ∈ List.replicate rpt (unitOf w pause), l.length = w.length + pause :=
  fun _ hl => List.eq_of_mem_replicate hl ▸ length_unitOf w pause

theorem length_frame (w : List Word) (pause rpt : Nat) : (frame w pause rpt).length = rpt * (w.length + pause) := by
  rw [frame, length_flatten_of_length (length_of_mem_units w pause rpt), List.length_replicate]

/-- Every repeat of a frame is the unit. -/
theorem getElem?_frame (w : List Word) {pause rpt r j : Nat} (hr : r < rpt) (hj : j < w.length + pause) :
    (frame w pause rpt)[r * (w.length + pause) + j]? = (unitOf w pause)[j]? := by
  rw [frame, getElem?_flatten_of_length (length_of_mem_units w pause rpt) r hj, List.getElem?_replicate_of_lt hr,
    Option.bind_some]

theorem frame_nil (pause rpt : Nat) : frame [] pause rpt = zeros (rpt * pause) :=
  List.flatten_replicate_replicate

/-! The serialiser (R108). -/

/-- Byte `j` of a sample is its bits from `8 * j` up (R44). -/
theorem getElem?_le (v : Word) {j : Nat} (hj : j < 4) : (le v)[j]? = some (v.extractLsb' (8 * j) 8) := by
  match j with
  | 0 | 1 | 2 | 3 => rfl

theorem length_of_mem_bytes (xs : List Word) : ∀ l ∈ xs.map le, l.length = 4 :=
  List.forall_mem_map.mpr fun _ _ => rfl

theorem length_serialise (xs : List Word) : (serialise xs).length = 4 * xs.length := by
  rw [serialise, List.flatMap_def, length_flatten_of_length (length_of_mem_bytes xs), List.length_map, Nat.mul_comm]

theorem getElem?_serialise {xs : List Word} {n j : Nat} {v : Word} (hv : xs[n]? = some v) (hj : j < 4) :
    (serialise xs)[4 * n + j]? = some (v.extractLsb' (8 * j) 8) := by
  rw [serialise, List.flatMap_def, Nat.mul_comm, getElem?_flatten_of_length (length_of_mem_bytes xs) n hj,
    List.getElem?_map, hv, Option.map_some, Option.bind_some, getElem?_le v hj]

/-! `Encode` (R110). -/

theorem exists_lineBit_iff {c : Byte} : (∃ b, lineBit c = some b) ↔ valid c = true := by
  cases hv : valid c with
  | false => simp [lineBit_of_invalid hv]
  | true => simp [lineBit, appBit, hv]

/-- `Encode` by the line bits of the string itself. -/
theorem encodeBuffer_eq_some_iff {c : Config} {bs buf : List Byte} {a soft : Bool} :
    encodeBuffer c bs a soft = some buf ↔
      ∃ ls, bs.mapM lineBit = some ls ∧ serialise (frame (modulate c ls) c.pause (repeats a soft)) = buf := by
  rw [encodeBuffer, mapM_appBit_invert, Option.map_eq_some_iff]

/-- A malformed character, and nothing else, leaves a string without an encoding (R72). -/
theorem exists_encodeBuffer_iff {c : Config} {bs : List Byte} {a soft : Bool} :
    (∃ buf, encodeBuffer c bs a soft = some buf) ↔ ∀ ch ∈ bs, valid ch = true :=
  calc (∃ buf, encodeBuffer c bs a soft = some buf)
    _ ↔ ∃ ls, bs.mapM lineBit = some ls := by simp [encodeBuffer_eq_some_iff]
    _ ↔ ∀ ch ∈ bs, ∃ b, lineBit ch = some b := exists_mapM_eq_some_iff
    _ ↔ ∀ ch ∈ bs, valid ch = true := forall₂_congr fun _ _ => exists_lineBit_iff

theorem length_encodeBuffer {c : Config} (hc : c.wellFormed = true) {bs buf : List Byte} {a soft : Bool}
    (h : encodeBuffer c bs a soft = some buf) :
    buf.length = 4 * (repeats a soft * (bs.length * sps c + c.pause)) := by
  obtain ⟨ls, hls, rfl⟩ := encodeBuffer_eq_some_iff.mp h
  rw [length_serialise, length_frame, length_modulate hc, length_of_mapM hls]

/-! The samples of a stored string (R73, R107). -/

theorem length_storedString {s : State} {bs : List Byte} (h : storedString s = some bs) :
    bs.length = s.len.toNat := by
  rw [length_of_mapM h, List.length_range]

/-- The character `i` of the stored string stands in cell `i`. -/
theorem read_of_storedString {s : State} {bs : List Byte} (h : storedString s = some bs) {i : Nat} {c : Byte}
    (hc : bs[i]? = some c) : s.sym.read i = some c := by
  obtain ⟨i', hi', hread⟩ := getElem?_of_mapM h hc
  obtain ⟨_, hi⟩ := List.getElem?_eq_some_iff.mp hi'
  rw [List.getElem_range] at hi
  exact hi ▸ hread

theorem lineAt_of_storedString {s : State} {bs : List Byte} {ls : List Bool} (hs : storedString s = some bs)
    (hls : bs.mapM lineBit = some ls) {i : Nat} {b : Bool} (hb : ls[i]? = some b) : lineAt s i = .ok b := by
  obtain ⟨c, hc, hline⟩ := getElem?_of_mapM hls hb
  exact lineAt_ok.mpr ⟨c, read_of_storedString hs hc, hline⟩

/-- The waveform of the stored string is `WLEN` samples (R100). -/
theorem length_modulate_storedString {s : State} {bs : List Byte} {ls : List Bool} (hc : s.cfg.wellFormed = true)
    (hs : storedString s = some bs) (hls : bs.mapM lineBit = some ls) :
    (modulate s.cfg ls).length = waveLen s := by
  rw [length_modulate hc, length_of_mapM hls, length_storedString hs, waveLen]

/-- `SampleAt(n)` is the entry of the unit at `n mod UNIT`. -/
theorem sampleAt_unit {s : State} {bs : List Byte} {ls : List Bool} (hc : s.cfg.wellFormed = true)
    (hs : storedString s = some bs) (hls : bs.mapM lineBit = some ls) (hu : 0 < unitLen s) (n : Nat) :
    ∃ v, sampleAt s n = .ok v ∧ (unitOf (modulate s.cfg ls) s.cfg.pause)[n % unitLen s]? = some v := by
  have hlen := length_modulate_storedString hc hs hls
  by_cases hw : n % unitLen s < waveLen s
  · rw [← hlen] at hw
    obtain ⟨b, v, hb, hkey, hv⟩ := modulate_sample hc (length_modulate hc ls ▸ hw)
    refine ⟨v, ?_, (getElem?_unitOf_of_lt hw _).trans hv⟩
    rw [sampleAt_of_lt_waveLen (hlen ▸ hw), symbolSample_ok]
    exact ⟨b, lineAt_of_storedString hs hls hb, hkey⟩
  · have hw := Nat.not_lt.mp hw
    refine ⟨silence, sampleAt_of_waveLen_le hu hw, getElem?_unitOf_of_le (hlen ▸ hw) ?_⟩
    rw [hlen]
    exact Nat.mod_lt _ hu

end Sys2Proof.Machine

namespace Sys2Proof.Safety

open Sys2Proof.Machine

/-- Settles O56. -/
theorem repeatPolicy : Obligations.RepeatPolicy :=
  ⟨rfl, rfl, rfl, rfl⟩

/-- Settles O57. -/
theorem serialisedBytes : Obligations.SerialisedBytes := fun xs =>
  ⟨length_serialise xs, fun _ _ _ => getElem?_serialise⟩

/-- Settles O55: a position of a frame is one of the unit. -/
theorem frameIsEqualUnits : Obligations.FrameIsEqualUnits := by
  refine fun w pause rpt => ⟨length_frame w pause rpt, fun r hr j hj => ?_, fun r hr j hw hj => ?_, rfl,
    frame_nil pause rpt⟩
  · exact (getElem?_frame w hr (Nat.lt_add_right pause hj)).trans (getElem?_unitOf_of_lt hj pause)
  · exact (getElem?_frame w hr hj).trans (getElem?_unitOf_of_le hw hj)

/-- Settles O54. -/
theorem waveformSamples : Obligations.WaveformSamples := by
  refine fun c ls hc => ⟨length_modulate hc ls, rfl, fun j hj => ?_⟩
  obtain ⟨b, v, hb, hkey, hv⟩ := modulate_sample hc hj
  exact ⟨b, v, hb, eq_of_key hkey, hkey, hv⟩

/-- Settles O36. -/
theorem encodedLength : Obligations.EncodedLength := fun _ _ _ _ hc =>
  ⟨exists_encodeBuffer_iff, fun _ => length_encodeBuffer hc⟩

/-- Settles O34: position `n` lies in repeat `n div UNIT` at offset `n mod UNIT`. -/
theorem samplesAreTheFrame : Obligations.SamplesAreTheFrame := by
  intro s bs ls rpt n hc hs hls hn
  have hunit : (modulate s.cfg ls).length + s.cfg.pause = unitLen s := by
    rw [length_modulate_storedString hc hs hls, unitLen]
  have hu : 0 < unitLen s := Nat.pos_of_mul_pos_left (Nat.zero_lt_of_lt hn)
  have hr : n / unitLen s < rpt := (Nat.div_lt_iff_lt_mul hu).mpr hn
  obtain ⟨v, hv, hentry⟩ := sampleAt_unit hc hs hls hu n
  refine ⟨by rw [length_frame, hunit, bufferLen], v, hv, ?_⟩
  have hframe := getElem?_frame (modulate s.cfg ls) (pause := s.cfg.pause) hr (hunit ▸ Nat.mod_lt n hu)
  rwa [hunit, Nat.div_add_mod', hentry] at hframe

end Sys2Proof.Safety
end

section
/-! PROOF. Family 44_commands.md: the nested counters (O26, O27), the bytes emitted so far (O28) and the result of a run (O35);
the effects of the commands (O5, O6, O7) and of the sequencer's steps (O17, O18), the control transfers (O21), and the words
that wait during a run (O9). First the facts about the operations, in the order of the model's definitions. -/

namespace Sys2Proof.Machine

/-! The byte stream and the buffer of a run (R108, R110). -/

/-- The bytes of one sample more are the next four bytes of the stream. -/
theorem take_serialise_succ {xs : List Word} {n : Nat} {v : Word} (hv : xs[n]? = some v) :
    (serialise xs).take (4 * (n + 1)) = (serialise xs).take (4 * n) ++ le v := by
  induction xs generalizing n with
  | nil => simp at hv
  | cons x xs ih =>
    have htake : ∀ m, (serialise (x :: xs)).take (4 * (m + 1)) = le x ++ (serialise xs).take (4 * m) := fun _ => rfl
    cases n with
    | zero =>
      rw [List.getElem?_cons_zero, Option.some_inj] at hv
      rw [htake, hv, Nat.mul_zero, List.take_zero, List.take_zero, List.append_nil, List.nil_append]
    | succ n => rw [htake, htake, ih (List.getElem?_cons_succ ▸ hv), List.append_assoc]

/-- The buffer of a run by the stored string and its line bits. -/
theorem currentBuffer_eq_some_iff {s : State} {buf : List Byte} :
    currentBuffer s = some buf ↔ ∃ bs ls, storedString s = some bs ∧ bs.mapM lineBit = some ls ∧
      serialise (frame (modulate s.cfg ls) s.cfg.pause s.rpt.toNat) = buf := by
  simp [currentBuffer, Option.bind_eq_some_iff]

/-- The cells below `LEN` hold valid characters exactly when a string of valid characters is stored. -/
theorem allValidBelow_len_iff {s : State} :
    Safety.AllValidBelow s.sym s.len.toNat ↔ ∃ bs, storedString s = some bs ∧ ∀ c ∈ bs, valid c = true := by
  constructor
  · intro hv
    have hcells : ∀ i ∈ List.range s.len.toNat, ∃ c, s.sym.read i = some c := fun i hi =>
      (hv i (List.mem_range.mp hi)).imp fun _ hc => hc.1
    obtain ⟨bs, hbs⟩ := exists_mapM_eq_some_iff.mpr hcells
    refine ⟨bs, hbs, fun c hc => ?_⟩
    obtain ⟨i, hi⟩ := List.getElem?_of_mem hc
    obtain ⟨hilt, -⟩ := List.getElem?_eq_some_iff.mp hi
    obtain ⟨d, hd, hvalid⟩ := hv i (length_storedString hbs ▸ hilt)
    rwa [Option.some_inj.mp ((read_of_storedString hbs hi).symm.trans hd)]
  · rintro ⟨bs, hbs, hvalid⟩ i hi
    have hilt : i < bs.length := length_storedString hbs ▸ hi
    exact ⟨bs[i], read_of_storedString hbs (List.getElem?_eq_getElem hilt), hvalid _ (List.getElem_mem hilt)⟩

/-- A stored string of valid characters has a buffer (R72). -/
theorem exists_currentBuffer {s : State} (hv : Safety.AllValidBelow s.sym s.len.toNat) :
    ∃ buf, currentBuffer s = some buf := by
  obtain ⟨bs, hbs, hvalid⟩ := allValidBelow_len_iff.mp hv
  obtain ⟨ls, hls⟩ := exists_mapM_eq_some_iff.mpr fun c hc => exists_lineBit_iff.mpr (hvalid c hc)
  exact ⟨_, currentBuffer_eq_some_iff.mpr ⟨bs, ls, hbs, hls, rfl⟩⟩

/-- The buffer of a run is four bytes for each of its samples (R106). -/
theorem length_currentBuffer {s : State} {buf : List Byte} (hc : s.cfg.wellFormed = true)
    (hbuf : currentBuffer s = some buf) : buf.length = 4 * bufferLen s s.rpt.toNat := by
  obtain ⟨bs, ls, hbs, hls, rfl⟩ := currentBuffer_eq_some_iff.mp hbuf
  rw [length_serialise, length_frame, length_modulate_storedString hc hbs hls, bufferLen, unitLen]

/-- At every position of the buffer there is a sample, and its bytes are the next four of the buffer (R107, R123). -/
theorem currentBuffer_take_succ {s : State} {buf : List Byte} {n : Nat} (hc : s.cfg.wellFormed = true)
    (hbuf : currentBuffer s = some buf) (hn : n < bufferLen s s.rpt.toNat) :
    ∃ v, sampleAt s n = .ok v ∧ buf.take (4 * (n + 1)) = buf.take (4 * n) ++ le v := by
  obtain ⟨bs, ls, hbs, hls, rfl⟩ := currentBuffer_eq_some_iff.mp hbuf
  obtain ⟨-, v, hv, hentry⟩ := Safety.samplesAreTheFrame s bs ls s.rpt.toNat n hc hbs hls hn
  exact ⟨v, hv, take_serialise_succ hentry⟩

/-! The nested counters' transition, branch by branch (R124). -/

theorem Counters.advance_in_symbol {c : Config} {len : Nat} {x : Counters} (hseg : x.seg = .symbols)
    (hk : x.k + 1 < sps c) : x.advance c len = { x with k := x.k + 1 } := by
  simp [Counters.advance, hseg, hk]

theorem Counters.advance_next_symbol {c : Config} {len : Nat} {x : Counters} (hseg : x.seg = .symbols)
    (hk : sps c ≤ x.k + 1) (hi : x.i + 1 < len) : x.advance c len = { x with k := 0, i := x.i + 1 } := by
  simp [Counters.advance, hseg, Nat.not_lt.mpr hk, hi]

theorem Counters.advance_to_pause {c : Config} {len : Nat} {x : Counters} (hseg : x.seg = .symbols)
    (hk : sps c ≤ x.k + 1) (hi : len ≤ x.i + 1) (hp : 0 < c.pause) :
    x.advance c len = { x with k := 0, i := 0, seg := .pause, p := 0 } := by
  simp [Counters.advance, hseg, Nat.not_lt.mpr hk, Nat.not_lt.mpr hi, hp]

theorem Counters.advance_without_pause {c : Config} {len : Nat} {x : Counters} (hseg : x.seg = .symbols)
    (hk : sps c ≤ x.k + 1) (hi : len ≤ x.i + 1) (hp : c.pause = 0) :
    x.advance c len = { x with k := 0, i := 0, r := x.r + 1 } := by
  simp [Counters.advance, hseg, Nat.not_lt.mpr hk, Nat.not_lt.mpr hi, hp]

theorem Counters.advance_in_pause {c : Config} {len : Nat} {x : Counters} (hseg : x.seg = .pause)
    (hp : x.p + 1 < c.pause) : x.advance c len = { x with p := x.p + 1 } := by
  simp [Counters.advance, hseg, hp]

theorem Counters.advance_past_pause {c : Config} {len : Nat} {x : Counters} (hseg : x.seg = .pause)
    (hp : c.pause ≤ x.p + 1) :
    x.advance c len = { x with p := 0, r := x.r + 1, seg := if 0 < len then .symbols else .pause } := by
  simp [Counters.advance, hseg, Nat.not_lt.mpr hp]

/-! Acceptance during a run (R119). -/

theorem accept_busy {s : State} (hc : s.cfg.wellFormed = true) (hb : s.busy = true) (effect : State → StepOutcome) :
    accept s effect = .next s := by
  simp [accept, hc, hb]

/-! The steps into and inside a run (R119 to R122). -/

/-- A step whose next state is a running block is an emission, a stall, or the start of a run. -/
theorem StepCase.of_busy {s t : State} (h : StepCase s t) (hb : t.busy = true) :
    (s.busy = true ∧ s.n.toNat < s.total.toNat ∧
        ∃ v, sampleAt s s.n.toNat = .ok v ∧ t = s.nextMove.emitted v) ∨
      (s.busy = true ∧ t = s.nextMove) ∨
      (s.busy = false ∧ ∃ w a soft, s.cmdQueue.head? = some w ∧ decode w = .command (.enc a soft) ∧
        s.cfgErr = false ∧ s.ovf = false ∧ Safety.AllValidBelow s.sym s.len.toNat ∧
        t = s.taken.freshBuffer.succeed.startRun (repeats a soft) (bufferLen s (repeats a soft))) := by
  cases h with
  | reset | complete => cases hb
  | emit _ hs hn v hv => exact .inl ⟨hs, hn, v, hv, rfl⟩
  | stall _ hs => exact .inr (.inl ⟨hs, rfl⟩)
  | started _ hs w ws a soft hq hd hc ho hj =>
    exact .inr (.inr ⟨hs, w, a, soft, head?_eq_of_queue hq, hd, hc, ho, allValidBelow_of_firstBad_clean hj, rfl⟩)
  | idle _ hs | illegal _ hs | clrb _ hs | pushed _ hs | dropped _ hs | degenerate _ hs | overflowed _ hs
  | malformed _ hs => exact nomatch hs.symm.trans hb

/-- A step of a running block is a reset, an emission, a stall or the completion. -/
theorem step_in_run {s t : State} (h : step s = .next t) (hb : s.busy = true) :
    (s.move = .reset ∧ t = s.nextMove.afterReset) ∨
      (s.n.toNat < s.total.toNat ∧ ∃ v, t = s.nextMove.emitted v) ∨ t = s.nextMove ∨
      (s.n.toNat = s.total.toNat ∧ t = s.nextMove.completed) := by
  obtain ⟨-, ⟨hm, rfl⟩ | ⟨-, -, hr⟩ | ⟨-, hi, -⟩⟩ := step_next h
  · exact .inl ⟨hm, rfl⟩
  · rcases runStep_next hr with ⟨hn, -, v, -, rfl⟩ | ⟨-, -, rfl⟩ | ⟨hn, rfl⟩
    · exact .inr (.inl ⟨hn, v, rfl⟩)
    · exact .inr (.inr (.inl rfl))
    · exact .inr (.inr (.inr ⟨hn, rfl⟩))
  · exact nomatch hb.symm.trans hi

/-- A run of `m + k` steps is a run of `k` after one of `m`. -/
theorem run_add {M : Host.Core} {s t : M.State} {m : Nat} (h : M.run m s = .next t) (k : Nat) :
    M.run (m + k) s = M.run k t := by
  induction m generalizing s with
  | zero =>
    cases h
    rw [Nat.zero_add]
  | succ m ih =>
    rw [Nat.add_right_comm]
    cases hs : M.step s with
    | next u =>
      rw [run_succ_of_step hs] at h ⊢
      exact ih h
    | fault r | refused r => simp [Host.Core.run, hs] at h

end Sys2Proof.Machine

namespace Sys2Proof.Safety

open Sys2Proof.Machine

/-! The nested counters as the decomposition of `N` (R124). -/

/-- The hidden counters are in range and stand for `N`: repeat `r` at the offset of the segment. -/
def CountersAt (s : State) : Prop :=
  counterRanges s ∧ s.n.toNat = s.ctr.r * unitLen s + counterOffset s

theorem countersAt_symbols_iff {s : State} (hseg : s.ctr.seg = .symbols) :
    CountersAt s ↔ (s.ctr.i < s.len.toNat ∧ s.ctr.k < sps s.cfg) ∧
      s.n.toNat = s.ctr.r * unitLen s + (s.ctr.i * sps s.cfg + s.ctr.k) := by
  simp only [CountersAt, counterRanges, counterOffset, hseg]

theorem countersAt_pause_iff {s : State} (hseg : s.ctr.seg = .pause) :
    CountersAt s ↔ (s.ctr.p < s.cfg.pause ∧ s.ctr.i = 0 ∧ s.ctr.k = 0) ∧
      s.n.toNat = s.ctr.r * unitLen s + (waveLen s + s.ctr.p) := by
  simp only [CountersAt, counterRanges, counterOffset, hseg]

theorem countersAt_of_symbols {s : State} {x : Counters} (hctr : s.ctr = x) (hseg : x.seg = .symbols)
    (hi : x.i < s.len.toNat) (hk : x.k < sps s.cfg)
    (hn : s.n.toNat = x.r * unitLen s + (x.i * sps s.cfg + x.k)) : CountersAt s := by
  subst hctr
  exact (countersAt_symbols_iff hseg).mpr ⟨⟨hi, hk⟩, hn⟩

theorem countersAt_of_pause {s : State} {x : Counters} (hctr : s.ctr = x) (hseg : x.seg = .pause)
    (hp : x.p < s.cfg.pause) (hi : x.i = 0) (hk : x.k = 0) (hn : s.n.toNat = x.r * unitLen s + (waveLen s + x.p)) :
    CountersAt s := by
  subst hctr
  exact (countersAt_pause_iff hseg).mpr ⟨⟨hp, hi, hk⟩, hn⟩

/-- Where a unit has a sample, counters at the start of repeat `r` stand for `r * UNIT`. -/
theorem countersAt_of_unit_start {s : State} {r : Nat} (hctr : s.ctr = { Counters.start s.len.toNat with r := r })
    (hsps : 0 < sps s.cfg) (hu : 0 < unitLen s) (hn : s.n.toNat = r * unitLen s) : CountersAt s := by
  rcases Nat.eq_zero_or_pos s.len.toNat with hl | hl
  · have hw : waveLen s = 0 := by rw [waveLen, hl, Nat.zero_mul]
    have hp : 0 < s.cfg.pause := by rwa [unitLen, hw, Nat.zero_add] at hu
    exact countersAt_of_pause hctr (if_neg (Nat.not_lt.mpr hl.le)) hp rfl rfl (by rw [hw]; exact hn)
  · exact countersAt_of_symbols hctr (if_pos hl) hl hsps (by rw [Counters.start, Nat.zero_mul]; exact hn)

/-- The end of a symbol is the start of the next. -/
theorem symbol_end {i k m : Nat} (hk : k < m) (hend : m ≤ k + 1) : i * m + k + 1 = (i + 1) * m := by
  rw [Nat.succ_mul]
  omega

/-- An emission advances the counters to `N + 1`, in each branch of their transition. -/
theorem CountersAt.emitted {s : State} (h : CountersAt s) (hsps : 0 < sps s.cfg)
    (hn : (s.n + 1).toNat = s.n.toNat + 1) (v : Word) : CountersAt (s.emitted v) := by
  have hunit : unitLen s = waveLen s + s.cfg.pause := rfl
  cases hseg : s.ctr.seg with
  | symbols =>
    obtain ⟨⟨hi, hk⟩, hpos⟩ := (countersAt_symbols_iff hseg).mp h
    rcases Nat.lt_or_ge (s.ctr.k + 1) (sps s.cfg) with hk1 | hk1
    · have hpos1 : s.n.toNat + 1 = s.ctr.r * unitLen s + (s.ctr.i * sps s.cfg + (s.ctr.k + 1)) := by omega
      exact countersAt_of_symbols (Counters.advance_in_symbol hseg hk1) hseg hi hk1 (hn.trans hpos1)
    · have hsymbol := symbol_end (i := s.ctr.i) hk hk1
      rcases Nat.lt_or_ge (s.ctr.i + 1) s.len.toNat with hi1 | hi1
      · have hpos1 : s.n.toNat + 1 = s.ctr.r * unitLen s + ((s.ctr.i + 1) * sps s.cfg + 0) := by omega
        exact countersAt_of_symbols (Counters.advance_next_symbol hseg hk1 hi1) hseg hi1 hsps (hn.trans hpos1)
      · have hwave : s.ctr.i * sps s.cfg + s.ctr.k + 1 = waveLen s := by
          have hlen : s.ctr.i + 1 = s.len.toNat := Nat.le_antisymm hi hi1
          rw [hsymbol, hlen, waveLen]
        rcases Nat.eq_zero_or_pos s.cfg.pause with hp | hp
        · have hpos1 : s.n.toNat + 1 = (s.ctr.r + 1) * unitLen s + (0 * sps s.cfg + 0) := by
            rw [Nat.succ_mul, Nat.zero_mul]
            omega
          exact countersAt_of_symbols (Counters.advance_without_pause hseg hk1 hi1 hp) hseg (Nat.zero_lt_of_lt hi) hsps
            (hn.trans hpos1)
        · have hpos1 : s.n.toNat + 1 = s.ctr.r * unitLen s + (waveLen s + 0) := by omega
          exact countersAt_of_pause (Counters.advance_to_pause hseg hk1 hi1 hp) rfl hp rfl rfl (hn.trans hpos1)
  | pause =>
    obtain ⟨⟨hp, hi, hk⟩, hpos⟩ := (countersAt_pause_iff hseg).mp h
    rcases Nat.lt_or_ge (s.ctr.p + 1) s.cfg.pause with hp1 | hp1
    · have hpos1 : s.n.toNat + 1 = s.ctr.r * unitLen s + (waveLen s + (s.ctr.p + 1)) := by omega
      exact countersAt_of_pause (Counters.advance_in_pause hseg hp1) hseg hp1 hi hk (hn.trans hpos1)
    · have hpos1 : s.n.toNat + 1 = (s.ctr.r + 1) * unitLen s := by
        rw [Nat.succ_mul]
        omega
      have hctr : s.ctr.advance s.cfg s.len.toNat = { Counters.start s.len.toNat with r := s.ctr.r + 1 } := by
        rw [Counters.advance_past_pause hseg hp1, hi, hk]
        rfl
      exact countersAt_of_unit_start hctr hsps (show 0 < unitLen s by omega) (hn.trans hpos1)

/-- The counters stand for a place inside a unit. -/
theorem CountersAt.offset_lt {s : State} (h : CountersAt s) : counterOffset s < unitLen s := by
  cases hseg : s.ctr.seg with
  | symbols =>
    obtain ⟨⟨hi, hk⟩, -⟩ := (countersAt_symbols_iff hseg).mp h
    have hle : (s.ctr.i + 1) * sps s.cfg ≤ waveLen s := Nat.mul_le_mul_right _ hi
    rw [Nat.succ_mul] at hle
    simp only [counterOffset, hseg, unitLen]
    omega
  | pause =>
    obtain ⟨⟨hp, -⟩, -⟩ := (countersAt_pause_iff hseg).mp h
    simpa only [counterOffset, hseg, unitLen, Nat.add_lt_add_iff_left] using hp

/-- The counters divide `N` by the unit without a divider. -/
theorem CountersAt.div_mod {s : State} (h : CountersAt s) :
    s.n.toNat / unitLen s = s.ctr.r ∧ s.n.toNat % unitLen s = counterOffset s := by
  have hlt := h.offset_lt
  rw [h.2, Nat.div_mod_unique (Nat.zero_lt_of_lt hlt), Nat.add_comm, Nat.mul_comm]
  exact ⟨rfl, hlt⟩

/-- Counters that stand for `N` are in step with it: the buffer has `RPT` units, so `N` has reached its end exactly when
`r` has reached `RPT`. -/
theorem CountersAt.countersOk {s : State} (h : CountersAt s) (htotal : s.total.toNat = bufferLen s s.rpt.toNat)
    (hle : s.n.toNat ≤ s.total.toNat) : CountersOk s := by
  have hu : 0 < unitLen s := Nat.zero_lt_of_lt h.offset_lt
  have hlt : s.n.toNat < s.total.toNat ↔ s.ctr.r < s.rpt.toNat := by
    rw [htotal, bufferLen, ← h.div_mod.1, Nat.div_lt_iff_lt_mul hu]
  have hrle : s.ctr.r ≤ s.rpt.toNat := by
    rw [← h.div_mod.1]
    exact Nat.div_le_of_le_mul (by rwa [Nat.mul_comm, ← bufferLen, ← htotal])
  exact fun _ _ => ⟨fun hn => ⟨hlt.mp hn, h⟩, by omega⟩

/-- A run that is not degenerate has samples in a symbol (R23, R36(d)). -/
theorem Inv.sps_pos {s : State} (h : Inv s) (hc : s.cfgErr = false) : 0 < sps s.cfg := by
  have hcfg := h.cfgErrIs
  rw [hc] at hcfg
  exact Nat.pos_of_ne_zero fun h0 => by simp [h0] at hcfg

/-- Settles O26: an emission advances the counters with `N`, the start of a run sets both to the start of the buffer, and a
stall leaves both. -/
theorem everyStepKeepsTheCounters : Obligations.EveryStepKeepsTheCounters := by
  intro s t h hctr hs hb htotal
  have ht := h.of_stepCase (step_cases hs).2
  have hrun := ht.running hb
  suffices hok : CountersOk t from hok hb htotal
  rcases (step_cases hs).2.of_busy hb with ⟨hsb, hn, v, -, rfl⟩ | ⟨-, rfl⟩ | ⟨-, w, a, soft, -, -, hc, -, -, rfl⟩
  · obtain ⟨-, hat⟩ := (hctr hsb htotal).1 hn
    have hat' : CountersAt (s.nextMove.emitted v) :=
      CountersAt.emitted (s := s.nextMove) hat (h.sps_pos (h.running hsb).notDegenerate) (toNat_succ_of_lt hn) v
    exact hat'.countersOk hrun.totalIs hrun.counterLe
  · exact hctr
  · have hu : 0 < unitLen s := by
      rw [hrun.totalIs] at htotal
      exact Nat.pos_of_mul_pos_left htotal
    have hat := countersAt_of_unit_start (r := 0) (s := s.taken.freshBuffer.succeed.startRun (repeats a soft)
      (bufferLen s (repeats a soft))) rfl (h.sps_pos hc) hu (Nat.zero_mul _).symm
    exact hat.countersOk hrun.totalIs hrun.counterLe

/-- Settles O27: the counters divide `N` by `UNIT`, and in the waveform the offset by `SPS`. -/
theorem countersSelectTheSample : Obligations.CountersSelectTheSample := by
  intro s _ hctr hb hn
  obtain ⟨-, hat⟩ := (hctr hb (Nat.zero_lt_of_lt hn)).1 hn
  have hat : CountersAt s := hat
  obtain ⟨hr, hmod⟩ := hat.div_mod
  have hu : 0 < unitLen s := Nat.zero_lt_of_lt hat.offset_lt
  cases hseg : s.ctr.seg with
  | symbols =>
    obtain ⟨⟨hi, hk⟩, -⟩ := (countersAt_symbols_iff hseg).mp hat
    have hoffset : counterOffset s = s.ctr.i * sps s.cfg + s.ctr.k := by simp only [counterOffset, hseg]
    rw [hoffset] at hmod
    have hdm : s.n.toNat % unitLen s / sps s.cfg = s.ctr.i ∧ s.n.toNat % unitLen s % sps s.cfg = s.ctr.k := by
      rw [hmod, Nat.div_mod_unique (Nat.zero_lt_of_lt hk), Nat.add_comm, Nat.mul_comm]
      exact ⟨rfl, hk⟩
    have hw : s.n.toNat % unitLen s < waveLen s := by
      rw [waveLen, ← Nat.div_lt_iff_lt_mul (Nat.zero_lt_of_lt hk), hdm.1]
      exact hi
    refine ⟨?_, hr.symm, fun _ => ⟨hw, hdm.1.symm, hdm.2.symm⟩, nofun⟩
    rw [sampleAt_of_lt_waveLen hw, hdm.1, hdm.2]
    simp only [counterSample, hseg]
  | pause =>
    have hoffset : counterOffset s = waveLen s + s.ctr.p := by simp only [counterOffset, hseg]
    rw [hoffset] at hmod
    have hw : waveLen s ≤ s.n.toNat % unitLen s := hmod ▸ Nat.le_add_right _ _
    refine ⟨?_, hr.symm, nofun, fun _ => ⟨hw, by omega⟩⟩
    rw [sampleAt_of_waveLen_le hu hw]
    simp only [counterSample, hseg]

/-! The bytes emitted so far (R123). -/

/-- Settles O28: an emission appends the next four bytes of the buffer, and a run starts with none. -/
theorem everyStepKeepsThePrefix : Obligations.EveryStepKeepsThePrefix := by
  intro s t h hpre hs hb
  rcases (step_cases hs).2.of_busy hb with ⟨hsb, hn, v, hv, rfl⟩ | ⟨hsb, rfl⟩ | ⟨-, w, a, soft, -, -, -, -, hvalid, rfl⟩
  · obtain ⟨buf, hbuf, hout⟩ := hpre hsb
    obtain ⟨v', hv', htake⟩ := currentBuffer_take_succ h.config hbuf ((h.running hsb).totalIs ▸ hn)
    obtain rfl : v' = v := Except.ok.inj (hv'.symm.trans hv)
    refine ⟨buf, hbuf, ?_⟩
    rw [State.emitted_outbuf, State.emitted_n, State.nextMove_outbuf, State.nextMove_n, toNat_succ_of_lt hn, htake, hout]
  · exact hpre hsb
  · obtain ⟨buf, hbuf⟩ := exists_currentBuffer (s := s.taken.freshBuffer.succeed.startRun (repeats a soft)
      (bufferLen s (repeats a soft))) hvalid
    exact ⟨buf, hbuf, rfl⟩

/-! The commands and the sequencer's steps (R114 to R122). -/

/-- Settles O5. -/
theorem clrbEmptiesTheString : Obligations.ClrbEmptiesTheString :=
  ⟨decode_encode .clrb, fun _ hs => exec_of_ready hs .clrb⟩

/-- Settles O6: with room for it the character is written at `LEN`, which does not wrap below `MAXBITS` (R32). -/
theorem pushcStoresOrOverflows : Obligations.PushcStoresOrOverflows := by
  refine ⟨fun ch => decode_encode (.pushc ch), fun s ch hs => ⟨fun hl => ?_, fun hl => ?_⟩⟩
  · obtain ⟨-, -, -, -, -, hmax⟩ := s.cfg.wellFormed_parts hs.1
    exact ⟨s.sym.write s.len.toNat ch, (exec_of_ready hs _).trans (pushcEffect_of_room hl ch),
      toNat_len_appendChar (Nat.lt_of_le_of_lt hl hmax) ch, Memory.read_write_same _ _ _,
      fun i hi => Memory.read_write_other _ _ _ _ hi⟩
  · exact (exec_of_ready hs _).trans (pushcEffect_of_full hl ch)

/-- `ENC` past every check begins the run, and its `TOTAL` fits (R113, R116). -/
theorem exec_enc_valid {s : State} (a soft : Bool) (hs : Ready s) (hc : s.cfgErr = false) (ho : s.ovf = false)
    (hv : AllValidBelow s.sym s.len.toNat) (hl : s.len.toNat ≤ s.cfg.maxBits) :
    exec (.enc a soft) s =
        .next (s.freshBuffer.succeed.startRun (repeats a soft) (bufferLen s (repeats a soft))) ∧
      bufferLen s (repeats a soft) < 2 ^ 32 := by
  have hfits : bufferLen s (repeats a soft) < 2 ^ 32 := bufferLen_lt hs.1 hl (repeats_le a soft)
  refine ⟨?_, hfits⟩
  rw [exec_of_ready hs]
  exact encEffect_of_valid a soft hc ho (firstBad_clean_of_allValidBelow hv) hfits

/-- Settles O7, check by check. -/
theorem encChecksThenStartsTheRun : Obligations.EncChecksThenStartsTheRun := by
  refine ⟨fun a soft => decode_encode (.enc a soft), fun s a soft hs => ⟨fun hc => ?_, fun hc ho => ?_, ?_, ?_⟩⟩
  · exact (exec_of_ready hs _).trans (encEffect_of_degenerate a soft hc)
  · exact (exec_of_ready hs _).trans (encEffect_of_overflowed a soft hc ho)
  · intro hc ho j c hj hr hv hbelow
    exact (exec_of_ready hs _).trans (encEffect_of_bad a soft hc ho (firstBad_eq_bad_iff.mpr ⟨hj, hr, hv, hbelow⟩))
  · intro hc ho hv hl
    exact exec_enc_valid a soft hs hc ho hv hl

/-- Settles O9: neither reset nor any step of a run takes a word off the port. -/
theorem wordsWaitDuringARun : Obligations.WordsWaitDuringARun := by
  refine ⟨fun s i hc hb => ?_, fun s t hb h => ?_⟩
  · rw [exec_eq_accept, accept_busy hc hb]
  · rcases step_in_run h hb with ⟨-, rfl⟩ | ⟨-, v, rfl⟩ | rfl | ⟨-, rfl⟩ <;> rfl

/-- Settles O17: the model's mark `N + 1 = TOTAL` is R121's `N = TOTAL - 1` below `TOTAL`. -/
theorem emissionAppendsOneSample : Obligations.EmissionAppendsOneSample := by
  intro s v hs hm hn hv
  have hlast : outLast s.nextMove = decide (s.n.toNat = s.total.toNat - 1) := by
    rw [outLast, State.nextMove_n, State.nextMove_total, decide_eq_decide]
    omega
  refine ⟨?_, toNat_succ_of_lt hn⟩
  rw [step_of_inRun hs, runStep_of_sample hm hn hv, ← hlast]
  rfl

/-- Settles O18. -/
theorem completionStep : Obligations.CompletionStep := fun _ hs hn =>
  (step_of_inRun hs).trans (runStep_of_total hn)

/-- Settles O21: the last two clauses by what a step of a run can do. -/
theorem controlTransfers : Obligations.ControlTransfers := by
  refine fun s t h => ⟨fun hb ht => ?_, fun hb ht => ?_, fun hb ht => ?_⟩
  · rcases (step_cases h).2.of_busy ht with ⟨hs, -⟩ | ⟨hs, -⟩ | ⟨-, w, a, soft, hq, hd, hc, ho, hv, rfl⟩
    · exact nomatch hb.symm.trans hs
    · exact nomatch hb.symm.trans hs
    · exact ⟨w, a, soft, hq, hd, hc, ho, hv, rfl, rfl⟩
  · rcases step_in_run h hb with ⟨hm, -⟩ | ⟨-, v, rfl⟩ | rfl | ⟨hn, -⟩
    · exact .inl hm
    · exact nomatch hb.symm.trans ht
    · exact nomatch hb.symm.trans ht
    · exact .inr hn
  · rcases step_in_run h hb with ⟨-, rfl⟩ | ⟨hn, v, rfl⟩ | rfl | ⟨-, rfl⟩
    · cases ht
    · have hn1 : (s.n + 1).toNat = s.n.toNat + 1 := toNat_succ_of_lt hn
      exact ⟨rfl, rfl, .inr ⟨hn1, hn1.trans_le hn⟩⟩
    · exact ⟨rfl, rfl, .inl rfl⟩
    · cases ht

/-! The result of a run (R110, R123, R153). -/

/-- Without a reset in the script there is none at this step. -/
theorem move_ne_reset_of_notMem {s : State} (h : Outside.reset ∉ s.outside) : s.move ≠ .reset := by
  cases ho : s.outside with
  | nil => exact move_ne_reset ho
  | cons x xs =>
    intro hm
    have hx : x = .reset := by rwa [State.move, ho] at hm
    exact h (ho ▸ hx ▸ List.mem_cons_self)

/-- `t` is a moment of a run whose whole buffer is `buf`, with no reset to come (R123). -/
structure RunOf (buf : List Byte) (t : State) : Prop where
  config : t.cfg.wellFormed = true
  busy : t.busy = true
  noReset : Outside.reset ∉ t.outside
  buffer : currentBuffer t = some buf
  totalIs : t.total.toNat = bufferLen t t.rpt.toNat
  counterLe : t.n.toNat ≤ t.total.toNat
  emitted : t.outbuf = buf.take (4 * t.n.toNat)

/-- A state without what the steps of a run write (R121, R122) and without the outside world's moves. -/
def runFrame (s : State) : State :=
  { s with
    busy := false, done := false, n := 0, ctr := Counters.atReset, outbuf := [], stream := [], outside := [] }

/-- `u` is a later moment of the run of `t`, after `k` emissions more. -/
structure Advanced (t : State) (k : Nat) (u : State) : Prop where
  frame : runFrame u = runFrame t
  count : u.n.toNat = t.n.toNat + k
  transfers : u.stream.length = t.stream.length + k

theorem Advanced.refl (t : State) : Advanced t 0 t := ⟨rfl, rfl, rfl⟩

theorem Advanced.trans {s t u : State} {j k : Nat} (h : Advanced s j t) (h' : Advanced t k u) :
    Advanced s (j + k) u where
  frame := h'.frame.trans h.frame
  count := by rw [h'.count, h.count, Nat.add_assoc]
  transfers := by rw [h'.transfers, h.transfers, Nat.add_assoc]

/-- Before the end of a run a step emits the next sample if the consumer accepts, and stalls if it does not. -/
theorem RunOf.step {buf : List Byte} {t : State} (h : RunOf buf t) (hn : t.n.toNat < t.total.toNat) :
    ∃ u k, Machine.step t = .next u ∧ RunOf buf u ∧ Advanced t k u ∧
      ∀ m, acceptsWithin t (m + 1) = k + acceptsWithin u m := by
  have hm := move_ne_reset_of_notMem h.noReset
  have hrun : Machine.step t = runStep t := step_of_inRun ⟨h.config, h.busy, hm⟩
  have hnoReset : Outside.reset ∉ t.nextMove.outside := fun hmem => h.noReset (List.mem_of_mem_tail hmem)
  cases hmv : t.move with
  | reset => exact absurd hmv hm
  | stall =>
    refine ⟨t.nextMove, 0, hrun.trans (runStep_of_stall hmv hn), { h with noReset := hnoReset }, ⟨rfl, rfl, rfl⟩,
      fun m => ?_⟩
    rw [acceptsWithin_succ, hmv, if_neg nofun]
  | accept =>
    obtain ⟨v, hv, htake⟩ := currentBuffer_take_succ h.config h.buffer (h.totalIs ▸ hn)
    have hn1 : (t.n + 1).toNat = t.n.toNat + 1 := toNat_succ_of_lt hn
    refine ⟨t.nextMove.emitted v, 1, hrun.trans (runStep_of_sample hmv hn hv),
      { h with noReset := hnoReset, counterLe := hn1.trans_le hn, emitted := ?_ }, ⟨rfl, hn1, ?_⟩, fun m => ?_⟩
    · rw [State.emitted_outbuf, State.emitted_n, State.nextMove_outbuf, State.nextMove_n, hn1, htake, h.emitted]
    · rw [State.emitted_stream, State.nextMove_stream, List.length_append, List.length_singleton]
    · rw [acceptsWithin_succ, hmv, if_pos rfl]
      rfl

/-- Until `TOTAL` samples are accepted the run goes on, by one emission for each acceptance; by induction on the number
of steps. -/
theorem RunOf.run {buf : List Byte} {t : State} (h : RunOf buf t) {m : Nat}
    (hm : ∀ j < m, t.n.toNat + acceptsWithin t j < t.total.toNat) :
    ∃ u, Host.Core.run Sys2Proof.core m t = .next u ∧ RunOf buf u ∧ Advanced t (acceptsWithin t m) u := by
  induction m generalizing t with
  | zero => exact ⟨t, rfl, h, (acceptsWithin_zero t).symm ▸ .refl t⟩
  | succ m ih =>
    have hn : t.n.toNat < t.total.toNat := Nat.lt_of_le_of_lt (Nat.le_add_right _ _) (hm 0 m.succ_pos)
    obtain ⟨u, k, hstep, hu, hadv, hacc⟩ := h.step hn
    have htotal : u.total = t.total := congrArg (·.total) hadv.frame
    obtain ⟨w, hrun, hw, hadv'⟩ := ih hu fun j hj => by
      have hj1 := hm (j + 1) (Nat.succ_lt_succ hj)
      rwa [hadv.count, htotal, Nat.add_assoc, ← hacc]
    exact ⟨w, (run_succ_of_step (M := Sys2Proof.core) hstep m).trans hrun, hw, hacc m ▸ hadv.trans hadv'⟩

/-- A run with every sample emitted has sent its whole buffer, and completes (R122). -/
theorem RunOf.complete {buf : List Byte} {t : State} (h : RunOf buf t) (hn : t.n.toNat = t.total.toNat) :
    Machine.step t = .next t.nextMove.completed ∧ t.outbuf = buf := by
  refine ⟨(StepCase.complete (move_ne_reset_of_notMem h.noReset) h.busy hn).step_eq h.config, ?_⟩
  rw [h.emitted, List.take_of_length_le]
  rw [length_currentBuffer h.config h.buffer, hn, h.totalIs]

/-- The consumer has accepted `n` samples after `m` moves, and not sooner. -/
def AcceptedFirst (s : State) (n m : Nat) : Prop :=
  acceptsWithin s m = n ∧ ∀ j < m, acceptsWithin s j < n

theorem acceptedFirst_zero (s : State) : AcceptedFirst s 0 0 :=
  ⟨acceptsWithin_zero s, nofun⟩

/-- The next move comes before the moves of the state in which it is used up. -/
theorem AcceptedFirst.of_nextMove {s : State} {n m : Nat} (h : AcceptedFirst s.nextMove n m)
    (hpos : 0 < (if s.move = .accept then 1 else 0) + n) :
    AcceptedFirst s ((if s.move = .accept then 1 else 0) + n) (m + 1) := by
  obtain ⟨hacc, hbefore⟩ := h
  refine ⟨by rw [acceptsWithin_succ, hacc], fun j hj => ?_⟩
  cases j with
  | zero => rwa [acceptsWithin_zero]
  | succ j =>
    rw [acceptsWithin_succ]
    exact Nat.add_lt_add_left (hbefore j (Nat.lt_of_succ_lt_succ hj)) _

/-- A fair consumer has accepted `n` samples after `n` moves and the stalls of its script, at the latest; by induction on
the script. -/
theorem EventuallyAccepts.exists_acceptedFirst {s : State} {n : Nat} (h : EventuallyAccepts s n) :
    ∃ m ≤ n + s.outside.count .stall, AcceptedFirst s n m := by
  induction hs : s.outside generalizing s n with
  | nil =>
    cases n with
    | zero => exact ⟨0, Nat.zero_le _, acceptedFirst_zero s⟩
    | succ n =>
      have hready : s.outReady = true := by simpa [hs] using h.2
      have hall : ∀ m, acceptsWithin s m = m := fun m => by simp [acceptsWithin, hs, hready]
      exact ⟨n + 1, Nat.le_add_right _ _, hall _, fun j hj => (hall j).trans_lt hj⟩
  | cons x xs ih =>
    have hnext : s.nextMove.outside = xs := congrArg List.tail hs
    have hmove : s.move = x := by rw [State.move, hs]
    cases n with
    | zero => exact ⟨0, Nat.zero_le _, acceptedFirst_zero s⟩
    | succ n =>
      cases x with
      | reset => exact absurd hmove (move_ne_reset_of_notMem h.1)
      | accept =>
        obtain ⟨m, hm, hfirst⟩ := ih (h.next_accept hmove) hnext
        have hfirst := hfirst.of_nextMove (by rw [if_pos hmove]; omega)
        rw [if_pos hmove, Nat.add_comm] at hfirst
        refine ⟨m + 1, ?_, hfirst⟩
        rw [List.count_cons_of_ne (show Outside.accept ≠ .stall from nofun), Nat.add_right_comm]
        exact Nat.succ_le_succ hm
      | stall =>
        obtain ⟨m, hm, hfirst⟩ := ih (h.next_stall hmove) hnext
        have hfirst := hfirst.of_nextMove (Nat.add_pos_right _ n.succ_pos)
        rw [if_neg (by rw [hmove]; nofun), Nat.zero_add] at hfirst
        refine ⟨m + 1, ?_, hfirst⟩
        rw [List.count_cons_self]
        exact Nat.succ_le_succ hm

/-- The run that an accepted `ENC` begins has the bytes of `Encode` as its buffer (R110). -/
theorem runOf_started {s : State} {bs : List Byte} {a soft : Bool} (hs : Ready s) (hbs : storedString s = some bs)
    (hvalid : ∀ c ∈ bs, valid c = true) (hfits : bufferLen s (repeats a soft) < 2 ^ 32)
    (hnoReset : Outside.reset ∉ s.outside) :
    ∃ buf, encodeBuffer s.cfg bs a soft = some buf ∧
      RunOf buf (s.freshBuffer.succeed.startRun (repeats a soft) (bufferLen s (repeats a soft))) := by
  obtain ⟨buf, hbuf⟩ := exists_encodeBuffer_iff (c := s.cfg) (a := a) (soft := soft) |>.mpr hvalid
  obtain ⟨ls, hls, hframe⟩ := encodeBuffer_eq_some_iff.mp hbuf
  have hrpt : (BitVec.ofNat 32 (repeats a soft) : Word).toNat = repeats a soft :=
    toNat_ofNat_of_lt (Nat.lt_of_le_of_lt (repeats_le a soft) (by decide))
  exact ⟨buf, hbuf,
    { config := hs.1
      busy := rfl
      noReset := hnoReset
      buffer := currentBuffer_eq_some_iff.mpr ⟨bs, ls, hbs, hls, by rw [State.startRun_rpt, hrpt]; exact hframe⟩
      totalIs := by
        rw [State.startRun_total, State.startRun_rpt, toNat_ofNat_of_lt hfits, hrpt]
        rfl
      counterLe := Nat.zero_le _
      emitted := rfl }⟩

/-- Settles O35: the run follows the consumer's acceptances to its end, and the next step completes it. -/
theorem runProducesTheEncodedBuffer : Obligations.RunProducesTheEncodedBuffer := by
  intro s bs a soft hs hc ho hl hbs hvalid hfair
  obtain ⟨hexec, hfits⟩ := exec_enc_valid a soft hs hc ho (allValidBelow_len_iff.mpr ⟨bs, hbs, hvalid⟩) hl
  obtain ⟨buf, henc, hrun⟩ := runOf_started hs hbs hvalid hfits hfair.1
  obtain ⟨m, hm, hacc, hbefore⟩ := hfair.exists_acceptedFirst
  generalize ht : s.freshBuffer.succeed.startRun (repeats a soft) (bufferLen s (repeats a soft)) = t at hexec hrun
  have htotal : t.total.toNat = bufferLen s (repeats a soft) := ht ▸ toNat_ofNat_of_lt hfits
  have hn : t.n.toNat = 0 := ht ▸ rfl
  have hmoves : acceptsWithin t = acceptsWithin s := ht ▸ rfl
  have hgoes : ∀ m, (∀ j < m, acceptsWithin s j < t.total.toNat) →
      ∃ u, Host.Core.run Sys2Proof.core m t = .next u ∧ RunOf buf u ∧ Advanced t (acceptsWithin s m) u := fun m hm => by
    rw [← hmoves] at hm ⊢
    exact hrun.run fun j hj => by rw [hn, Nat.zero_add]; exact hm j hj
  refine ⟨t, buf, hexec, henc, htotal, ?_, fun m hm => ?_, ?_⟩
  · rw [length_currentBuffer hrun.config hrun.buffer, hrun.totalIs]
  · obtain ⟨u, hu, hurun, hadv⟩ := hgoes m hm
    have hcount : u.n.toNat = acceptsWithin s m := by rw [hadv.count, hn, Nat.zero_add]
    exact ⟨u, hu, hurun.busy, hcount, hcount ▸ hurun.emitted⟩
  · rw [← htotal] at hm hacc hbefore
    obtain ⟨u, hu, hurun, hadv⟩ := hgoes m hbefore
    have hend : u.n.toNat = t.total.toNat := by rw [hadv.count, hn, Nat.zero_add, hacc]
    have htotal' : u.total = t.total := congrArg (·.total) hadv.frame
    obtain ⟨hstep, hbuf⟩ := hurun.complete (by rw [hend, htotal'])
    have hlast : Host.Core.run Sys2Proof.core (m + 1) t = .next u.nextMove.completed :=
      (run_add (M := Sys2Proof.core) hu 1).trans (run_succ_of_step (M := Sys2Proof.core) hstep 0)
    have hsent : u.stream.length = t.stream.length + t.total.toNat := by rw [hadv.transfers, hacc]
    have hframe := hadv.frame
    subst ht
    exact ⟨_, _, hm, hacc, hbefore, hlast, hbuf, rfl, rfl, congrArg (·.err) hframe,
      BitVec.eq_of_toNat_eq (hend.trans (congrArg BitVec.toNat htotal'.symm)), htotal', hsent, congrArg (·.rpt) hframe,
      congrArg (·.sym) hframe, congrArg (·.len) hframe, congrArg (·.ovf) hframe, congrArg (·.cfgErr) hframe⟩

end Sys2Proof.Safety
end

section
/-! PROOF. Family 60_exceptions.md: a faulting command has no partial effect (O10). -/

namespace Sys2Proof.Machine

/-- A command that faults is a `PUSHC` at a full memory, which sets the overflow mark, or an `ENC`, which has emptied the
buffer; beyond that one write it does nothing but record the fault (R115, R116, R135). `CLRB` never faults. -/
theorem commandEffect_faulting {s t : State} {i : Instr} (h : commandEffect i s = .next t) (he : t.err ≠ .none) :
    (∃ ch, i = .pushc ch ∧ s.cfg.maxBits ≤ s.len.toNat ∧
        t = s.markOverflow.raise .symbolOverflow (BitVec.ofNat 32 s.cfg.maxBits) ch) ∨
      (∃ a soft f idx ch, i = .enc a soft ∧ t = s.freshBuffer.raise f idx ch) := by
  cases i with
  | clrb =>
    obtain rfl := Host.Outcome.next.inj h
    exact absurd rfl he
  | pushc ch =>
    rcases pushcEffect_next h with ⟨-, rfl⟩ | ⟨hfull, rfl⟩
    · exact absurd rfl he
    · exact .inl ⟨ch, rfl, hfull, rfl⟩
  | enc a soft =>
    rcases encEffect_next h with ⟨-, rfl⟩ | ⟨-, -, rfl⟩ | ⟨-, -, j, c, -, rfl⟩ | ⟨-, -, -, -, rfl⟩
    · exact .inr ⟨a, soft, .degenerateSymbolParameters, 0, 0, rfl, rfl⟩
    · exact .inr ⟨a, soft, .symbolOverflow, 0, 0, rfl, rfl⟩
    · exact .inr ⟨a, soft, .malformedBitSequence, BitVec.ofNat 32 j, c, rfl, rfl⟩
    · exact absurd rfl he

end Sys2Proof.Machine

namespace Sys2Proof.Safety

open Sys2Proof.Machine

/-- Settles O10: the frames of the two faulting commands. -/
theorem faultsArePrecise : Obligations.FaultsArePrecise := by
  intro s t i hs h he
  rw [exec_of_ready hs] at h
  obtain ⟨-, hidle⟩ := hs
  rcases commandEffect_faulting h he with ⟨ch, rfl, -, rfl⟩ | ⟨a, soft, f, idx, ch, rfl, rfl⟩
  · exact ⟨hidle, rfl, rfl, rfl, rfl, rfl, rfl, rfl, rfl, rfl, nofun, fun _ => ⟨rfl, rfl⟩⟩
  · exact ⟨hidle, rfl, rfl, rfl, rfl, rfl, rfl, rfl, rfl, rfl, fun _ => ⟨rfl, rfl, rfl⟩,
      fun hother => absurd ⟨a, soft, rfl⟩ hother⟩

end Sys2Proof.Safety
end

section
/-! PROOF. Family 70_reset_and_hazards.md: a consumer that has stopped accepting (O22) and the reset step (O19). -/

namespace Sys2Proof.Machine

/-! A spent script (R42; log 7). -/

theorem move_of_not_ready {s : State} (ho : s.outside = []) (hr : s.outReady = false) : s.move = .stall := by
  simp [State.move, ho, hr]

theorem nextMove_of_outside_nil {s : State} (ho : s.outside = []) : s.nextMove = s := by
  rw [State.nextMove, ho, List.tail_nil, ← ho]

/-- A state whose step answers itself is where every run from it ends. -/
theorem run_of_step_self {M : Host.Core} {s : M.State} (h : M.step s = .next s) (m : Nat) : M.run m s = .next s := by
  induction m with
  | zero => rfl
  | succ m ih => exact (run_succ_of_step h m).trans ih

/-- Before the end of a run, a consumer that has stopped accepting leaves no step but the wait (R153). -/
theorem step_of_stopped_consumer {s : State} (hc : s.cfg.wellFormed = true) (hb : s.busy = true)
    (hn : s.n.toNat < s.total.toNat) (ho : s.outside = []) (hr : s.outReady = false) : step s = .next s :=
  calc step s = .next s.nextMove := (StepCase.stall (move_of_not_ready ho hr) hb hn).step_eq hc
    _ = .next s := congrArg _ (nextMove_of_outside_nil ho)

end Sys2Proof.Machine

namespace Sys2Proof.Safety

open Sys2Proof.Machine

/-- Settles O22: the step of such a state is the wait, which answers the state itself. -/
theorem stoppedConsumerHangsTheRun : Obligations.StoppedConsumerHangsTheRun := by
  intro s m hc hb hn ho hr
  exact run_of_step_self (M := Sys2Proof.core) (step_of_stopped_consumer hc hb hn ho hr) m

/-- Settles O19: the reset step answers `afterReset`, whose fields are those of R34. -/
theorem resetStep : Obligations.ResetStep := fun _ hc hm =>
  ⟨_, step_of_reset hc hm, rfl, rfl, rfl, rfl, rfl, rfl, rfl, rfl, rfl, rfl, rfl, rfl, rfl, rfl, rfl, rfl⟩

end Sys2Proof.Safety
end
